-- ==== Sys2Proof/Word.lean ====
section
/-! DEFINITION. The two widths of the machine: the 8-bit byte (registers, memory cells, I/O data) and the
16-bit word (addresses, register pairs, `PC`, `SP`, port numbers); 00_scope.md rule R6. -/

namespace Sys2Proof

/-- An 8-bit register, memory cell or I/O datum (rules R6, R7: an unsigned bit pattern, bit 0 least significant). -/
abbrev Byte := BitVec 8

/-- A 16-bit register pair, memory address or port address (rule R6). -/
abbrev Word := BitVec 16

end Sys2Proof
end

