-- ==== Sys2Proof/Config.lean ====
section
/-! DEFINITION. What the spec leaves to the implementation and the platform (00_scope.md rule R6,
92_eei_decisions.md): the named parameters with the values the spec gives them, the kinds of memory a platform
may put behind an address, the record of what crosses the bus, and the FREE VALUES. A free value is an `opaque`
constant: it has no body that a proof can see, so every theorem holds whatever it is (`draw(n)` of rule R8). -/

namespace Sys2Proof

/-- What the platform puts behind a memory address (`PLATFORM.mem`, rules R6, R61 to R63, decision D3). -/
inductive MemKind where
  /-- Read and written; the default of every address. -/
  | ram
  /-- Read; a write changes nothing. -/
  | rom
  /-- Nothing: a read is a free value, a write changes nothing. -/
  | unbacked
  /-- A memory-mapped device: a read is a free value, a write is handed to the platform. -/
  | device
deriving DecidableEq, Repr

/-- A block of `size` addresses from `base` on, all of one kind. -/
structure Region where
  base : Nat
  size : Nat
  kind : MemKind
deriving DecidableEq, Repr

/-- What crosses between the CPU and the platform, in program order (rules R64, R70): the `history` that
`PLATFORM.io_read(port16, history)` may depend on, and the record of what the platform is handed. -/
inductive BusEvent where
  /-- `IORead(port16)` answered `value`. -/
  | ioRead (port : Word) (value : Byte)
  /-- `IOWrite(port16, value)`. -/
  | ioWrite (port : Word) (value : Byte)
  /-- A read of an address that the platform marks as a device or as unbacked answered `value` (rule R62). -/
  | memRead (addr : Word) (value : Byte)
  /-- A write to a memory-mapped device (rule R63). -/
  | memWrite (addr : Word) (value : Byte)
deriving DecidableEq, Repr

namespace Config

/-- FREE VALUE (log entry 3). The bits of `F` that the spec leaves open at the `n`-th write of the flags: bit `k`
of the byte is the draw for `F[k]` (rules R45, R46, layout R22). -/
opaque freeFlags : Nat → Byte

/-- FREE VALUE (log entry 4). The byte a port answers after the given history (`PLATFORM.io_read`, rule R64,
decision D4). -/
opaque ioByte : Word → List BusEvent → Byte

/-- FREE VALUE (log entry 5). The byte a device or unbacked address answers after the given history (rule R62). -/
opaque platformByte : Word → List BusEvent → Byte

/-- FREE VALUE (log entry 20). The T-states of a mode-0 acceptance, for which the spec has no figure (rule R470). -/
opaque modeZeroTStates : Nat

/-- `RESET_PC` (rule R6, decision D13). -/
def resetPc : Word := 0x0000

/-- `IM1_VECTOR` (rules R6, R405, decision D8). -/
def im1Vector : Word := 0x0038

/-- `NMI_VECTOR` (rules R6, R408, decision D9). -/
def nmiVector : Word := 0x0066

/-- `OUT_C_0_VALUE` (rules R6, R293, decision D35): zero, as the source says (log entry 14). -/
def outC0Value : Byte := 0x00

end Config

end Sys2Proof
end

