-- ==== Sys2Proof/Syntax.lean ====
section
/-! DEFINITION. The instructions: one constructor per row of spec/opcode_table.json (30_encoding.md rules R90, R113),
592 of them. A constructor's name is the row's mnemonic; `atHL`, `atNn`, `atIXd` and the like stand for the operands
written in parentheses, and the two rows of rule R114 that repeat a form on the `ED` page end in `_ed`. Operands: `n`
an immediate byte (R103), `nn` an immediate word or address (R104), `d` the displacement byte of an index operand
(R105), `e` the displacement byte of a relative jump (R106), `b` a bit index (R102), which `Instr.wellFormed` bounds. The instructions
with operands come first: Lean's compiler takes at most 244 constructors with fields, at the head of a type. -/

namespace Sys2Proof

/-- The Z80 instruction set of rule R1 (the source's forms, rule R90). -/
inductive Instr where
  /-- `DJNZ e`, rule R205. -/
  | djnz_e (e : Byte)
  /-- `JR e`, rule R203. -/
  | jr_e (e : Byte)
  /-- `JR NZ,e`, rule R204. -/
  | jr_NZ_e (e : Byte)
  /-- `JR Z,e`, rule R204. -/
  | jr_Z_e (e : Byte)
  /-- `JR NC,e`, rule R204. -/
  | jr_NC_e (e : Byte)
  /-- `JR C,e`, rule R204. -/
  | jr_C_e (e : Byte)
  /-- `LD BC,nn`, rule R319. -/
  | ld_BC_nn (nn : Word)
  /-- `LD DE,nn`, rule R319. -/
  | ld_DE_nn (nn : Word)
  /-- `LD HL,nn`, rule R319. -/
  | ld_HL_nn (nn : Word)
  /-- `LD SP,nn`, rule R319. -/
  | ld_SP_nn (nn : Word)
  /-- `LD (nn),HL`, rule R321. -/
  | ld_atNn_HL (nn : Word)
  /-- `LD (nn),A`, rule R318. -/
  | ld_atNn_A (nn : Word)
  /-- `LD HL,(nn)`, rule R320. -/
  | ld_HL_atNn (nn : Word)
  /-- `LD A,(nn)`, rule R316. -/
  | ld_A_atNn (nn : Word)
  /-- `LD B,n`, rule R311. -/
  | ld_B_n (n : Byte)
  /-- `LD C,n`, rule R311. -/
  | ld_C_n (n : Byte)
  /-- `LD D,n`, rule R311. -/
  | ld_D_n (n : Byte)
  /-- `LD E,n`, rule R311. -/
  | ld_E_n (n : Byte)
  /-- `LD H,n`, rule R311. -/
  | ld_H_n (n : Byte)
  /-- `LD L,n`, rule R311. -/
  | ld_L_n (n : Byte)
  /-- `LD (HL),n`, rule R314. -/
  | ld_atHL_n (n : Byte)
  /-- `LD A,n`, rule R311. -/
  | ld_A_n (n : Byte)
  /-- `ADD A,n`, rule R130. -/
  | add_A_n (n : Byte)
  /-- `ADC A,n`, rule R131. -/
  | adc_A_n (n : Byte)
  /-- `SUB n`, rule R132. -/
  | sub_n (n : Byte)
  /-- `SBC A,n`, rule R133. -/
  | sbc_A_n (n : Byte)
  /-- `AND n`, rule R170. -/
  | and_n (n : Byte)
  /-- `XOR n`, rule R172. -/
  | xor_n (n : Byte)
  /-- `OR n`, rule R171. -/
  | or_n (n : Byte)
  /-- `CP n`, rule R134. -/
  | cp_n (n : Byte)
  /-- `JP NZ,nn`, rule R201. -/
  | jp_NZ_nn (nn : Word)
  /-- `CALL NZ,nn`, rule R207. -/
  | call_NZ_nn (nn : Word)
  /-- `JP Z,nn`, rule R201. -/
  | jp_Z_nn (nn : Word)
  /-- `CALL Z,nn`, rule R207. -/
  | call_Z_nn (nn : Word)
  /-- `JP NC,nn`, rule R201. -/
  | jp_NC_nn (nn : Word)
  /-- `CALL NC,nn`, rule R207. -/
  | call_NC_nn (nn : Word)
  /-- `JP C,nn`, rule R201. -/
  | jp_C_nn (nn : Word)
  /-- `CALL C,nn`, rule R207. -/
  | call_C_nn (nn : Word)
  /-- `JP PO,nn`, rule R201. -/
  | jp_PO_nn (nn : Word)
  /-- `CALL PO,nn`, rule R207. -/
  | call_PO_nn (nn : Word)
  /-- `JP PE,nn`, rule R201. -/
  | jp_PE_nn (nn : Word)
  /-- `CALL PE,nn`, rule R207. -/
  | call_PE_nn (nn : Word)
  /-- `JP P,nn`, rule R201. -/
  | jp_P_nn (nn : Word)
  /-- `CALL P,nn`, rule R207. -/
  | call_P_nn (nn : Word)
  /-- `JP M,nn`, rule R201. -/
  | jp_M_nn (nn : Word)
  /-- `CALL M,nn`, rule R207. -/
  | call_M_nn (nn : Word)
  /-- `JP nn`, rule R200. -/
  | jp_nn (nn : Word)
  /-- `OUT (n),A`, rule R290. -/
  | out_atN_A (n : Byte)
  /-- `IN A,(n)`, rule R280. -/
  | in_A_atN (n : Byte)
  /-- `CALL nn`, rule R206. -/
  | call_nn (nn : Word)
  /-- `BIT b,B`, rule R177. -/
  | bit_b_B (b : Nat)
  /-- `BIT b,C`, rule R177. -/
  | bit_b_C (b : Nat)
  /-- `BIT b,D`, rule R177. -/
  | bit_b_D (b : Nat)
  /-- `BIT b,E`, rule R177. -/
  | bit_b_E (b : Nat)
  /-- `BIT b,H`, rule R177. -/
  | bit_b_H (b : Nat)
  /-- `BIT b,L`, rule R177. -/
  | bit_b_L (b : Nat)
  /-- `BIT b,(HL)`, rule R177. -/
  | bit_b_atHL (b : Nat)
  /-- `BIT b,A`, rule R177. -/
  | bit_b_A (b : Nat)
  /-- `RES b,B`, rule R178. -/
  | res_b_B (b : Nat)
  /-- `RES b,C`, rule R178. -/
  | res_b_C (b : Nat)
  /-- `RES b,D`, rule R178. -/
  | res_b_D (b : Nat)
  /-- `RES b,E`, rule R178. -/
  | res_b_E (b : Nat)
  /-- `RES b,H`, rule R178. -/
  | res_b_H (b : Nat)
  /-- `RES b,L`, rule R178. -/
  | res_b_L (b : Nat)
  /-- `RES b,(HL)`, rule R178. -/
  | res_b_atHL (b : Nat)
  /-- `RES b,A`, rule R178. -/
  | res_b_A (b : Nat)
  /-- `SET b,B`, rule R179. -/
  | set_b_B (b : Nat)
  /-- `SET b,C`, rule R179. -/
  | set_b_C (b : Nat)
  /-- `SET b,D`, rule R179. -/
  | set_b_D (b : Nat)
  /-- `SET b,E`, rule R179. -/
  | set_b_E (b : Nat)
  /-- `SET b,H`, rule R179. -/
  | set_b_H (b : Nat)
  /-- `SET b,L`, rule R179. -/
  | set_b_L (b : Nat)
  /-- `SET b,(HL)`, rule R179. -/
  | set_b_atHL (b : Nat)
  /-- `SET b,A`, rule R179. -/
  | set_b_A (b : Nat)
  /-- `LD (nn),BC`, rule R321. -/
  | ld_atNn_BC (nn : Word)
  /-- `LD BC,(nn)`, rule R320. -/
  | ld_BC_atNn (nn : Word)
  /-- `LD (nn),DE`, rule R321. -/
  | ld_atNn_DE (nn : Word)
  /-- `LD DE,(nn)`, rule R320. -/
  | ld_DE_atNn (nn : Word)
  /-- `LD (nn),HL` (the long form, rule R114), rule R321. -/
  | ld_atNn_HL_ed (nn : Word)
  /-- `LD HL,(nn)` (the long form, rule R114), rule R320. -/
  | ld_HL_atNn_ed (nn : Word)
  /-- `LD (nn),SP`, rule R321. -/
  | ld_atNn_SP (nn : Word)
  /-- `LD SP,(nn)`, rule R320. -/
  | ld_SP_atNn (nn : Word)
  /-- `LD IX,nn`, rule R319. -/
  | ld_IX_nn (nn : Word)
  /-- `LD (nn),IX`, rule R321. -/
  | ld_atNn_IX (nn : Word)
  /-- `LD IX,(nn)`, rule R320. -/
  | ld_IX_atNn (nn : Word)
  /-- `LD IXH,n`, rule R311. -/
  | ld_IXH_n (n : Byte)
  /-- `LD IXL,n`, rule R311. -/
  | ld_IXL_n (n : Byte)
  /-- `INC (IX+d)`, rule R136. -/
  | inc_atIXd (d : Byte)
  /-- `DEC (IX+d)`, rule R137. -/
  | dec_atIXd (d : Byte)
  /-- `LD (IX+d),n`, rule R314. -/
  | ld_atIXd_n (d : Byte) (n : Byte)
  /-- `LD B,(IX+d)`, rule R312. -/
  | ld_B_atIXd (d : Byte)
  /-- `LD C,(IX+d)`, rule R312. -/
  | ld_C_atIXd (d : Byte)
  /-- `LD D,(IX+d)`, rule R312. -/
  | ld_D_atIXd (d : Byte)
  /-- `LD E,(IX+d)`, rule R312. -/
  | ld_E_atIXd (d : Byte)
  /-- `LD H,(IX+d)`, rule R312. -/
  | ld_H_atIXd (d : Byte)
  /-- `LD L,(IX+d)`, rule R312. -/
  | ld_L_atIXd (d : Byte)
  /-- `LD (IX+d),B`, rule R313. -/
  | ld_atIXd_B (d : Byte)
  /-- `LD (IX+d),C`, rule R313. -/
  | ld_atIXd_C (d : Byte)
  /-- `LD (IX+d),D`, rule R313. -/
  | ld_atIXd_D (d : Byte)
  /-- `LD (IX+d),E`, rule R313. -/
  | ld_atIXd_E (d : Byte)
  /-- `LD (IX+d),H`, rule R313. -/
  | ld_atIXd_H (d : Byte)
  /-- `LD (IX+d),L`, rule R313. -/
  | ld_atIXd_L (d : Byte)
  /-- `LD (IX+d),A`, rule R313. -/
  | ld_atIXd_A (d : Byte)
  /-- `LD A,(IX+d)`, rule R312. -/
  | ld_A_atIXd (d : Byte)
  /-- `ADD A,(IX+d)`, rule R130. -/
  | add_A_atIXd (d : Byte)
  /-- `ADC A,(IX+d)`, rule R131. -/
  | adc_A_atIXd (d : Byte)
  /-- `SUB (IX+d)`, rule R132. -/
  | sub_atIXd (d : Byte)
  /-- `SBC A,(IX+d)`, rule R133. -/
  | sbc_A_atIXd (d : Byte)
  /-- `AND (IX+d)`, rule R170. -/
  | and_atIXd (d : Byte)
  /-- `XOR (IX+d)`, rule R172. -/
  | xor_atIXd (d : Byte)
  /-- `OR (IX+d)`, rule R171. -/
  | or_atIXd (d : Byte)
  /-- `CP (IX+d)`, rule R134. -/
  | cp_atIXd (d : Byte)
  /-- `RLC (IX+d)`, rule R354. -/
  | rlc_atIXd (d : Byte)
  /-- `RRC (IX+d)`, rule R356. -/
  | rrc_atIXd (d : Byte)
  /-- `RL (IX+d)`, rule R355. -/
  | rl_atIXd (d : Byte)
  /-- `RR (IX+d)`, rule R357. -/
  | rr_atIXd (d : Byte)
  /-- `SLA (IX+d)`, rule R358. -/
  | sla_atIXd (d : Byte)
  /-- `SRA (IX+d)`, rule R360. -/
  | sra_atIXd (d : Byte)
  /-- `SLL (IX+d)`, rule R359. -/
  | sll_atIXd (d : Byte)
  /-- `SRL (IX+d)`, rule R361. -/
  | srl_atIXd (d : Byte)
  /-- `BIT b,(IX+d)`, rule R177. -/
  | bit_b_atIXd (b : Nat) (d : Byte)
  /-- `RES b,(IX+d)`, rule R178. -/
  | res_b_atIXd (b : Nat) (d : Byte)
  /-- `SET b,(IX+d)`, rule R179. -/
  | set_b_atIXd (b : Nat) (d : Byte)
  /-- `LD IY,nn`, rule R319. -/
  | ld_IY_nn (nn : Word)
  /-- `LD (nn),IY`, rule R321. -/
  | ld_atNn_IY (nn : Word)
  /-- `LD IY,(nn)`, rule R320. -/
  | ld_IY_atNn (nn : Word)
  /-- `LD IYH,n`, rule R311. -/
  | ld_IYH_n (n : Byte)
  /-- `LD IYL,n`, rule R311. -/
  | ld_IYL_n (n : Byte)
  /-- `INC (IY+d)`, rule R136. -/
  | inc_atIYd (d : Byte)
  /-- `DEC (IY+d)`, rule R137. -/
  | dec_atIYd (d : Byte)
  /-- `LD (IY+d),n`, rule R314. -/
  | ld_atIYd_n (d : Byte) (n : Byte)
  /-- `LD B,(IY+d)`, rule R312. -/
  | ld_B_atIYd (d : Byte)
  /-- `LD C,(IY+d)`, rule R312. -/
  | ld_C_atIYd (d : Byte)
  /-- `LD D,(IY+d)`, rule R312. -/
  | ld_D_atIYd (d : Byte)
  /-- `LD E,(IY+d)`, rule R312. -/
  | ld_E_atIYd (d : Byte)
  /-- `LD H,(IY+d)`, rule R312. -/
  | ld_H_atIYd (d : Byte)
  /-- `LD L,(IY+d)`, rule R312. -/
  | ld_L_atIYd (d : Byte)
  /-- `LD (IY+d),B`, rule R313. -/
  | ld_atIYd_B (d : Byte)
  /-- `LD (IY+d),C`, rule R313. -/
  | ld_atIYd_C (d : Byte)
  /-- `LD (IY+d),D`, rule R313. -/
  | ld_atIYd_D (d : Byte)
  /-- `LD (IY+d),E`, rule R313. -/
  | ld_atIYd_E (d : Byte)
  /-- `LD (IY+d),H`, rule R313. -/
  | ld_atIYd_H (d : Byte)
  /-- `LD (IY+d),L`, rule R313. -/
  | ld_atIYd_L (d : Byte)
  /-- `LD (IY+d),A`, rule R313. -/
  | ld_atIYd_A (d : Byte)
  /-- `LD A,(IY+d)`, rule R312. -/
  | ld_A_atIYd (d : Byte)
  /-- `ADD A,(IY+d)`, rule R130. -/
  | add_A_atIYd (d : Byte)
  /-- `ADC A,(IY+d)`, rule R131. -/
  | adc_A_atIYd (d : Byte)
  /-- `SUB (IY+d)`, rule R132. -/
  | sub_atIYd (d : Byte)
  /-- `SBC A,(IY+d)`, rule R133. -/
  | sbc_A_atIYd (d : Byte)
  /-- `AND (IY+d)`, rule R170. -/
  | and_atIYd (d : Byte)
  /-- `XOR (IY+d)`, rule R172. -/
  | xor_atIYd (d : Byte)
  /-- `OR (IY+d)`, rule R171. -/
  | or_atIYd (d : Byte)
  /-- `CP (IY+d)`, rule R134. -/
  | cp_atIYd (d : Byte)
  /-- `RLC (IY+d)`, rule R354. -/
  | rlc_atIYd (d : Byte)
  /-- `RRC (IY+d)`, rule R356. -/
  | rrc_atIYd (d : Byte)
  /-- `RL (IY+d)`, rule R355. -/
  | rl_atIYd (d : Byte)
  /-- `RR (IY+d)`, rule R357. -/
  | rr_atIYd (d : Byte)
  /-- `SLA (IY+d)`, rule R358. -/
  | sla_atIYd (d : Byte)
  /-- `SRA (IY+d)`, rule R360. -/
  | sra_atIYd (d : Byte)
  /-- `SLL (IY+d)`, rule R359. -/
  | sll_atIYd (d : Byte)
  /-- `SRL (IY+d)`, rule R361. -/
  | srl_atIYd (d : Byte)
  /-- `BIT b,(IY+d)`, rule R177. -/
  | bit_b_atIYd (b : Nat) (d : Byte)
  /-- `RES b,(IY+d)`, rule R178. -/
  | res_b_atIYd (b : Nat) (d : Byte)
  /-- `SET b,(IY+d)`, rule R179. -/
  | set_b_atIYd (b : Nat) (d : Byte)
  /-- `NOP`, rule R250. -/
  | nop
  /-- `EX AF,AF'`, rule R260. -/
  | ex_AF_AFshadow
  /-- `ADD HL,BC`, rule R140. -/
  | add_HL_BC
  /-- `INC BC`, rule R138. -/
  | inc_BC
  /-- `DEC BC`, rule R139. -/
  | dec_BC
  /-- `ADD HL,DE`, rule R140. -/
  | add_HL_DE
  /-- `INC DE`, rule R138. -/
  | inc_DE
  /-- `DEC DE`, rule R139. -/
  | dec_DE
  /-- `ADD HL,HL`, rule R140. -/
  | add_HL_HL
  /-- `INC HL`, rule R138. -/
  | inc_HL
  /-- `DEC HL`, rule R139. -/
  | dec_HL
  /-- `ADD HL,SP`, rule R140. -/
  | add_HL_SP
  /-- `INC SP`, rule R138. -/
  | inc_SP
  /-- `DEC SP`, rule R139. -/
  | dec_SP
  /-- `LD (BC),A`, rule R317. -/
  | ld_atBC_A
  /-- `LD (DE),A`, rule R317. -/
  | ld_atDE_A
  /-- `LD A,(BC)`, rule R315. -/
  | ld_A_atBC
  /-- `LD A,(DE)`, rule R315. -/
  | ld_A_atDE
  /-- `INC B`, rule R136. -/
  | inc_B
  /-- `DEC B`, rule R137. -/
  | dec_B
  /-- `INC C`, rule R136. -/
  | inc_C
  /-- `DEC C`, rule R137. -/
  | dec_C
  /-- `INC D`, rule R136. -/
  | inc_D
  /-- `DEC D`, rule R137. -/
  | dec_D
  /-- `INC E`, rule R136. -/
  | inc_E
  /-- `DEC E`, rule R137. -/
  | dec_E
  /-- `INC H`, rule R136. -/
  | inc_H
  /-- `DEC H`, rule R137. -/
  | dec_H
  /-- `INC L`, rule R136. -/
  | inc_L
  /-- `DEC L`, rule R137. -/
  | dec_L
  /-- `INC (HL)`, rule R136. -/
  | inc_atHL
  /-- `DEC (HL)`, rule R137. -/
  | dec_atHL
  /-- `INC A`, rule R136. -/
  | inc_A
  /-- `DEC A`, rule R137. -/
  | dec_A
  /-- `RLCA`, rule R350. -/
  | rlca
  /-- `RRCA`, rule R352. -/
  | rrca
  /-- `RLA`, rule R351. -/
  | rla
  /-- `RRA`, rule R353. -/
  | rra
  /-- `DAA`, rule R143. -/
  | daa
  /-- `CPL`, rule R174. -/
  | cpl
  /-- `SCF`, rule R176. -/
  | scf
  /-- `CCF`, rule R175. -/
  | ccf
  /-- `LD B,B`, rule R310. -/
  | ld_B_B
  /-- `LD B,C`, rule R310. -/
  | ld_B_C
  /-- `LD B,D`, rule R310. -/
  | ld_B_D
  /-- `LD B,E`, rule R310. -/
  | ld_B_E
  /-- `LD B,H`, rule R310. -/
  | ld_B_H
  /-- `LD B,L`, rule R310. -/
  | ld_B_L
  /-- `LD B,(HL)`, rule R312. -/
  | ld_B_atHL
  /-- `LD B,A`, rule R310. -/
  | ld_B_A
  /-- `LD C,B`, rule R310. -/
  | ld_C_B
  /-- `LD C,C`, rule R310. -/
  | ld_C_C
  /-- `LD C,D`, rule R310. -/
  | ld_C_D
  /-- `LD C,E`, rule R310. -/
  | ld_C_E
  /-- `LD C,H`, rule R310. -/
  | ld_C_H
  /-- `LD C,L`, rule R310. -/
  | ld_C_L
  /-- `LD C,(HL)`, rule R312. -/
  | ld_C_atHL
  /-- `LD C,A`, rule R310. -/
  | ld_C_A
  /-- `LD D,B`, rule R310. -/
  | ld_D_B
  /-- `LD D,C`, rule R310. -/
  | ld_D_C
  /-- `LD D,D`, rule R310. -/
  | ld_D_D
  /-- `LD D,E`, rule R310. -/
  | ld_D_E
  /-- `LD D,H`, rule R310. -/
  | ld_D_H
  /-- `LD D,L`, rule R310. -/
  | ld_D_L
  /-- `LD D,(HL)`, rule R312. -/
  | ld_D_atHL
  /-- `LD D,A`, rule R310. -/
  | ld_D_A
  /-- `LD E,B`, rule R310. -/
  | ld_E_B
  /-- `LD E,C`, rule R310. -/
  | ld_E_C
  /-- `LD E,D`, rule R310. -/
  | ld_E_D
  /-- `LD E,E`, rule R310. -/
  | ld_E_E
  /-- `LD E,H`, rule R310. -/
  | ld_E_H
  /-- `LD E,L`, rule R310. -/
  | ld_E_L
  /-- `LD E,(HL)`, rule R312. -/
  | ld_E_atHL
  /-- `LD E,A`, rule R310. -/
  | ld_E_A
  /-- `LD H,B`, rule R310. -/
  | ld_H_B
  /-- `LD H,C`, rule R310. -/
  | ld_H_C
  /-- `LD H,D`, rule R310. -/
  | ld_H_D
  /-- `LD H,E`, rule R310. -/
  | ld_H_E
  /-- `LD H,H`, rule R310. -/
  | ld_H_H
  /-- `LD H,L`, rule R310. -/
  | ld_H_L
  /-- `LD H,(HL)`, rule R312. -/
  | ld_H_atHL
  /-- `LD H,A`, rule R310. -/
  | ld_H_A
  /-- `LD L,B`, rule R310. -/
  | ld_L_B
  /-- `LD L,C`, rule R310. -/
  | ld_L_C
  /-- `LD L,D`, rule R310. -/
  | ld_L_D
  /-- `LD L,E`, rule R310. -/
  | ld_L_E
  /-- `LD L,H`, rule R310. -/
  | ld_L_H
  /-- `LD L,L`, rule R310. -/
  | ld_L_L
  /-- `LD L,(HL)`, rule R312. -/
  | ld_L_atHL
  /-- `LD L,A`, rule R310. -/
  | ld_L_A
  /-- `LD (HL),B`, rule R313. -/
  | ld_atHL_B
  /-- `LD (HL),C`, rule R313. -/
  | ld_atHL_C
  /-- `LD (HL),D`, rule R313. -/
  | ld_atHL_D
  /-- `LD (HL),E`, rule R313. -/
  | ld_atHL_E
  /-- `LD (HL),H`, rule R313. -/
  | ld_atHL_H
  /-- `LD (HL),L`, rule R313. -/
  | ld_atHL_L
  /-- `HALT`, rule R253. -/
  | halt
  /-- `LD (HL),A`, rule R313. -/
  | ld_atHL_A
  /-- `LD A,B`, rule R310. -/
  | ld_A_B
  /-- `LD A,C`, rule R310. -/
  | ld_A_C
  /-- `LD A,D`, rule R310. -/
  | ld_A_D
  /-- `LD A,E`, rule R310. -/
  | ld_A_E
  /-- `LD A,H`, rule R310. -/
  | ld_A_H
  /-- `LD A,L`, rule R310. -/
  | ld_A_L
  /-- `LD A,(HL)`, rule R312. -/
  | ld_A_atHL
  /-- `LD A,A`, rule R310. -/
  | ld_A_A
  /-- `ADD A,B`, rule R130. -/
  | add_A_B
  /-- `ADD A,C`, rule R130. -/
  | add_A_C
  /-- `ADD A,D`, rule R130. -/
  | add_A_D
  /-- `ADD A,E`, rule R130. -/
  | add_A_E
  /-- `ADD A,H`, rule R130. -/
  | add_A_H
  /-- `ADD A,L`, rule R130. -/
  | add_A_L
  /-- `ADD A,(HL)`, rule R130. -/
  | add_A_atHL
  /-- `ADD A,A`, rule R130. -/
  | add_A_A
  /-- `ADC A,B`, rule R131. -/
  | adc_A_B
  /-- `ADC A,C`, rule R131. -/
  | adc_A_C
  /-- `ADC A,D`, rule R131. -/
  | adc_A_D
  /-- `ADC A,E`, rule R131. -/
  | adc_A_E
  /-- `ADC A,H`, rule R131. -/
  | adc_A_H
  /-- `ADC A,L`, rule R131. -/
  | adc_A_L
  /-- `ADC A,(HL)`, rule R131. -/
  | adc_A_atHL
  /-- `ADC A,A`, rule R131. -/
  | adc_A_A
  /-- `SUB B`, rule R132. -/
  | sub_B
  /-- `SUB C`, rule R132. -/
  | sub_C
  /-- `SUB D`, rule R132. -/
  | sub_D
  /-- `SUB E`, rule R132. -/
  | sub_E
  /-- `SUB H`, rule R132. -/
  | sub_H
  /-- `SUB L`, rule R132. -/
  | sub_L
  /-- `SUB (HL)`, rule R132. -/
  | sub_atHL
  /-- `SUB A`, rule R132. -/
  | sub_A
  /-- `SBC A,B`, rule R133. -/
  | sbc_A_B
  /-- `SBC A,C`, rule R133. -/
  | sbc_A_C
  /-- `SBC A,D`, rule R133. -/
  | sbc_A_D
  /-- `SBC A,E`, rule R133. -/
  | sbc_A_E
  /-- `SBC A,H`, rule R133. -/
  | sbc_A_H
  /-- `SBC A,L`, rule R133. -/
  | sbc_A_L
  /-- `SBC A,(HL)`, rule R133. -/
  | sbc_A_atHL
  /-- `SBC A,A`, rule R133. -/
  | sbc_A_A
  /-- `AND B`, rule R170. -/
  | and_B
  /-- `AND C`, rule R170. -/
  | and_C
  /-- `AND D`, rule R170. -/
  | and_D
  /-- `AND E`, rule R170. -/
  | and_E
  /-- `AND H`, rule R170. -/
  | and_H
  /-- `AND L`, rule R170. -/
  | and_L
  /-- `AND (HL)`, rule R170. -/
  | and_atHL
  /-- `AND A`, rule R170. -/
  | and_A
  /-- `XOR B`, rule R172. -/
  | xor_B
  /-- `XOR C`, rule R172. -/
  | xor_C
  /-- `XOR D`, rule R172. -/
  | xor_D
  /-- `XOR E`, rule R172. -/
  | xor_E
  /-- `XOR H`, rule R172. -/
  | xor_H
  /-- `XOR L`, rule R172. -/
  | xor_L
  /-- `XOR (HL)`, rule R172. -/
  | xor_atHL
  /-- `XOR A`, rule R172. -/
  | xor_A
  /-- `OR B`, rule R171. -/
  | or_B
  /-- `OR C`, rule R171. -/
  | or_C
  /-- `OR D`, rule R171. -/
  | or_D
  /-- `OR E`, rule R171. -/
  | or_E
  /-- `OR H`, rule R171. -/
  | or_H
  /-- `OR L`, rule R171. -/
  | or_L
  /-- `OR (HL)`, rule R171. -/
  | or_atHL
  /-- `OR A`, rule R171. -/
  | or_A
  /-- `CP B`, rule R134. -/
  | cp_B
  /-- `CP C`, rule R134. -/
  | cp_C
  /-- `CP D`, rule R134. -/
  | cp_D
  /-- `CP E`, rule R134. -/
  | cp_E
  /-- `CP H`, rule R134. -/
  | cp_H
  /-- `CP L`, rule R134. -/
  | cp_L
  /-- `CP (HL)`, rule R134. -/
  | cp_atHL
  /-- `CP A`, rule R134. -/
  | cp_A
  /-- `RET NZ`, rule R209. -/
  | ret_NZ
  /-- `RST $00`, rule R212. -/
  | rst_00
  /-- `RET Z`, rule R209. -/
  | ret_Z
  /-- `RST $08`, rule R212. -/
  | rst_08
  /-- `RET NC`, rule R209. -/
  | ret_NC
  /-- `RST $10`, rule R212. -/
  | rst_10
  /-- `RET C`, rule R209. -/
  | ret_C
  /-- `RST $18`, rule R212. -/
  | rst_18
  /-- `RET PO`, rule R209. -/
  | ret_PO
  /-- `RST $20`, rule R212. -/
  | rst_20
  /-- `RET PE`, rule R209. -/
  | ret_PE
  /-- `RST $28`, rule R212. -/
  | rst_28
  /-- `RET P`, rule R209. -/
  | ret_P
  /-- `RST $30`, rule R212. -/
  | rst_30
  /-- `RET M`, rule R209. -/
  | ret_M
  /-- `RST $38`, rule R212. -/
  | rst_38
  /-- `POP BC`, rule R269. -/
  | pop_BC
  /-- `PUSH BC`, rule R268. -/
  | push_BC
  /-- `POP DE`, rule R269. -/
  | pop_DE
  /-- `PUSH DE`, rule R268. -/
  | push_DE
  /-- `POP HL`, rule R269. -/
  | pop_HL
  /-- `PUSH HL`, rule R268. -/
  | push_HL
  /-- `POP AF`, rule R269. -/
  | pop_AF
  /-- `PUSH AF`, rule R268. -/
  | push_AF
  /-- `RET`, rule R208. -/
  | ret
  /-- `EXX`, rule R264. -/
  | exx
  /-- `JP (HL)`, rule R202. -/
  | jp_HL
  /-- `LD SP,HL`, rule R322. -/
  | ld_SP_HL
  /-- `EX (SP),HL`, rule R262. -/
  | ex_atSP_HL
  /-- `EX DE,HL`, rule R261. -/
  | ex_DE_HL
  /-- `DI`, rule R251. -/
  | di
  /-- `EI`, rule R252. -/
  | ei
  /-- `RLC B`, rule R354. -/
  | rlc_B
  /-- `RLC C`, rule R354. -/
  | rlc_C
  /-- `RLC D`, rule R354. -/
  | rlc_D
  /-- `RLC E`, rule R354. -/
  | rlc_E
  /-- `RLC H`, rule R354. -/
  | rlc_H
  /-- `RLC L`, rule R354. -/
  | rlc_L
  /-- `RLC (HL)`, rule R354. -/
  | rlc_atHL
  /-- `RLC A`, rule R354. -/
  | rlc_A
  /-- `RRC B`, rule R356. -/
  | rrc_B
  /-- `RRC C`, rule R356. -/
  | rrc_C
  /-- `RRC D`, rule R356. -/
  | rrc_D
  /-- `RRC E`, rule R356. -/
  | rrc_E
  /-- `RRC H`, rule R356. -/
  | rrc_H
  /-- `RRC L`, rule R356. -/
  | rrc_L
  /-- `RRC (HL)`, rule R356. -/
  | rrc_atHL
  /-- `RRC A`, rule R356. -/
  | rrc_A
  /-- `RL B`, rule R355. -/
  | rl_B
  /-- `RL C`, rule R355. -/
  | rl_C
  /-- `RL D`, rule R355. -/
  | rl_D
  /-- `RL E`, rule R355. -/
  | rl_E
  /-- `RL H`, rule R355. -/
  | rl_H
  /-- `RL L`, rule R355. -/
  | rl_L
  /-- `RL (HL)`, rule R355. -/
  | rl_atHL
  /-- `RL A`, rule R355. -/
  | rl_A
  /-- `RR B`, rule R357. -/
  | rr_B
  /-- `RR C`, rule R357. -/
  | rr_C
  /-- `RR D`, rule R357. -/
  | rr_D
  /-- `RR E`, rule R357. -/
  | rr_E
  /-- `RR H`, rule R357. -/
  | rr_H
  /-- `RR L`, rule R357. -/
  | rr_L
  /-- `RR (HL)`, rule R357. -/
  | rr_atHL
  /-- `RR A`, rule R357. -/
  | rr_A
  /-- `SLA B`, rule R358. -/
  | sla_B
  /-- `SLA C`, rule R358. -/
  | sla_C
  /-- `SLA D`, rule R358. -/
  | sla_D
  /-- `SLA E`, rule R358. -/
  | sla_E
  /-- `SLA H`, rule R358. -/
  | sla_H
  /-- `SLA L`, rule R358. -/
  | sla_L
  /-- `SLA (HL)`, rule R358. -/
  | sla_atHL
  /-- `SLA A`, rule R358. -/
  | sla_A
  /-- `SRA B`, rule R360. -/
  | sra_B
  /-- `SRA C`, rule R360. -/
  | sra_C
  /-- `SRA D`, rule R360. -/
  | sra_D
  /-- `SRA E`, rule R360. -/
  | sra_E
  /-- `SRA H`, rule R360. -/
  | sra_H
  /-- `SRA L`, rule R360. -/
  | sra_L
  /-- `SRA (HL)`, rule R360. -/
  | sra_atHL
  /-- `SRA A`, rule R360. -/
  | sra_A
  /-- `SLL B`, rule R359. -/
  | sll_B
  /-- `SLL C`, rule R359. -/
  | sll_C
  /-- `SLL D`, rule R359. -/
  | sll_D
  /-- `SLL E`, rule R359. -/
  | sll_E
  /-- `SLL H`, rule R359. -/
  | sll_H
  /-- `SLL L`, rule R359. -/
  | sll_L
  /-- `SLL (HL)`, rule R359. -/
  | sll_atHL
  /-- `SLL A`, rule R359. -/
  | sll_A
  /-- `SRL B`, rule R361. -/
  | srl_B
  /-- `SRL C`, rule R361. -/
  | srl_C
  /-- `SRL D`, rule R361. -/
  | srl_D
  /-- `SRL E`, rule R361. -/
  | srl_E
  /-- `SRL H`, rule R361. -/
  | srl_H
  /-- `SRL L`, rule R361. -/
  | srl_L
  /-- `SRL (HL)`, rule R361. -/
  | srl_atHL
  /-- `SRL A`, rule R361. -/
  | srl_A
  /-- `IN B,(C)`, rule R281. -/
  | in_B_atC
  /-- `OUT (C),B`, rule R291. -/
  | out_atC_B
  /-- `IN C,(C)`, rule R281. -/
  | in_C_atC
  /-- `OUT (C),C`, rule R291. -/
  | out_atC_C
  /-- `IN D,(C)`, rule R281. -/
  | in_D_atC
  /-- `OUT (C),D`, rule R291. -/
  | out_atC_D
  /-- `IN E,(C)`, rule R281. -/
  | in_E_atC
  /-- `OUT (C),E`, rule R291. -/
  | out_atC_E
  /-- `IN H,(C)`, rule R281. -/
  | in_H_atC
  /-- `OUT (C),H`, rule R291. -/
  | out_atC_H
  /-- `IN L,(C)`, rule R281. -/
  | in_L_atC
  /-- `OUT (C),L`, rule R291. -/
  | out_atC_L
  /-- `IN (C)`, rule R282. -/
  | in_atC
  /-- `OUT (C),0`, rule R293. -/
  | out_atC_0
  /-- `IN A,(C)`, rule R281. -/
  | in_A_atC
  /-- `OUT (C),A`, rule R291. -/
  | out_atC_A
  /-- `SBC HL,BC`, rule R142. -/
  | sbc_HL_BC
  /-- `ADC HL,BC`, rule R141. -/
  | adc_HL_BC
  /-- `SBC HL,DE`, rule R142. -/
  | sbc_HL_DE
  /-- `ADC HL,DE`, rule R141. -/
  | adc_HL_DE
  /-- `SBC HL,HL`, rule R142. -/
  | sbc_HL_HL
  /-- `ADC HL,HL`, rule R141. -/
  | adc_HL_HL
  /-- `SBC HL,SP`, rule R142. -/
  | sbc_HL_SP
  /-- `ADC HL,SP`, rule R141. -/
  | adc_HL_SP
  /-- `NEG`, rule R135. -/
  | neg
  /-- `RETN`, rule R211. -/
  | retn
  /-- `RETI`, rule R210. -/
  | reti
  /-- `IM 0`, rule R254. -/
  | im_0
  /-- `IM 1`, rule R254. -/
  | im_1
  /-- `IM 2`, rule R254. -/
  | im_2
  /-- `LD I,A`, rule R332. -/
  | ld_I_A
  /-- `LD R,A`, rule R333. -/
  | ld_R_A
  /-- `LD A,I`, rule R330. -/
  | ld_A_I
  /-- `LD A,R`, rule R331. -/
  | ld_A_R
  /-- `RRD`, rule R363. -/
  | rrd
  /-- `RLD`, rule R362. -/
  | rld
  /-- `LDI`, rule R236. -/
  | ldi
  /-- `CPI`, rule R232. -/
  | cpi
  /-- `INI`, rule R283. -/
  | ini
  /-- `OUTI`, rule R294. -/
  | outi
  /-- `LDD`, rule R237. -/
  | ldd
  /-- `CPD`, rule R233. -/
  | cpd
  /-- `IND`, rule R284. -/
  | ind
  /-- `OUTD`, rule R295. -/
  | outd
  /-- `LDIR`, rule R238. -/
  | ldir
  /-- `CPIR`, rule R234. -/
  | cpir
  /-- `INIR`, rule R285. -/
  | inir
  /-- `OTIR`, rule R296. -/
  | otir
  /-- `LDDR`, rule R239. -/
  | lddr
  /-- `CPDR`, rule R235. -/
  | cpdr
  /-- `INDR`, rule R286. -/
  | indr
  /-- `OTDR`, rule R297. -/
  | otdr
  /-- `ADD IX,BC`, rule R140. -/
  | add_IX_BC
  /-- `ADD IX,DE`, rule R140. -/
  | add_IX_DE
  /-- `ADD IX,IX`, rule R140. -/
  | add_IX_IX
  /-- `ADD IX,SP`, rule R140. -/
  | add_IX_SP
  /-- `INC IX`, rule R138. -/
  | inc_IX
  /-- `DEC IX`, rule R139. -/
  | dec_IX
  /-- `INC IXH`, rule R136. -/
  | inc_IXH
  /-- `DEC IXH`, rule R137. -/
  | dec_IXH
  /-- `INC IXL`, rule R136. -/
  | inc_IXL
  /-- `DEC IXL`, rule R137. -/
  | dec_IXL
  /-- `LD B,IXH`, rule R310. -/
  | ld_B_IXH
  /-- `LD B,IXL`, rule R310. -/
  | ld_B_IXL
  /-- `LD C,IXH`, rule R310. -/
  | ld_C_IXH
  /-- `LD C,IXL`, rule R310. -/
  | ld_C_IXL
  /-- `LD D,IXH`, rule R310. -/
  | ld_D_IXH
  /-- `LD D,IXL`, rule R310. -/
  | ld_D_IXL
  /-- `LD E,IXH`, rule R310. -/
  | ld_E_IXH
  /-- `LD E,IXL`, rule R310. -/
  | ld_E_IXL
  /-- `LD IXH,B`, rule R310. -/
  | ld_IXH_B
  /-- `LD IXH,C`, rule R310. -/
  | ld_IXH_C
  /-- `LD IXH,D`, rule R310. -/
  | ld_IXH_D
  /-- `LD IXH,E`, rule R310. -/
  | ld_IXH_E
  /-- `LD IXH,IXH`, rule R310. -/
  | ld_IXH_IXH
  /-- `LD IXH,IXL`, rule R310. -/
  | ld_IXH_IXL
  /-- `LD IXH,A`, rule R310. -/
  | ld_IXH_A
  /-- `LD IXL,B`, rule R310. -/
  | ld_IXL_B
  /-- `LD IXL,C`, rule R310. -/
  | ld_IXL_C
  /-- `LD IXL,D`, rule R310. -/
  | ld_IXL_D
  /-- `LD IXL,E`, rule R310. -/
  | ld_IXL_E
  /-- `LD IXL,IXH`, rule R310. -/
  | ld_IXL_IXH
  /-- `LD IXL,IXL`, rule R310. -/
  | ld_IXL_IXL
  /-- `LD IXL,A`, rule R310. -/
  | ld_IXL_A
  /-- `LD A,IXH`, rule R310. -/
  | ld_A_IXH
  /-- `LD A,IXL`, rule R310. -/
  | ld_A_IXL
  /-- `ADD A,IXH`, rule R130. -/
  | add_A_IXH
  /-- `ADD A,IXL`, rule R130. -/
  | add_A_IXL
  /-- `ADC A,IXH`, rule R131. -/
  | adc_A_IXH
  /-- `ADC A,IXL`, rule R131. -/
  | adc_A_IXL
  /-- `SUB IXH`, rule R132. -/
  | sub_IXH
  /-- `SUB IXL`, rule R132. -/
  | sub_IXL
  /-- `SBC A,IXH`, rule R133. -/
  | sbc_A_IXH
  /-- `SBC A,IXL`, rule R133. -/
  | sbc_A_IXL
  /-- `AND IXH`, rule R170. -/
  | and_IXH
  /-- `AND IXL`, rule R170. -/
  | and_IXL
  /-- `XOR IXH`, rule R172. -/
  | xor_IXH
  /-- `XOR IXL`, rule R172. -/
  | xor_IXL
  /-- `OR IXH`, rule R171. -/
  | or_IXH
  /-- `OR IXL`, rule R171. -/
  | or_IXL
  /-- `CP IXH`, rule R134. -/
  | cp_IXH
  /-- `CP IXL`, rule R134. -/
  | cp_IXL
  /-- `POP IX`, rule R269. -/
  | pop_IX
  /-- `PUSH IX`, rule R268. -/
  | push_IX
  /-- `EX (SP),IX`, rule R263. -/
  | ex_atSP_IX
  /-- `JP (IX)`, rule R202. -/
  | jp_IX
  /-- `LD SP,IX`, rule R322. -/
  | ld_SP_IX
  /-- `ADD IY,BC`, rule R140. -/
  | add_IY_BC
  /-- `ADD IY,DE`, rule R140. -/
  | add_IY_DE
  /-- `ADD IY,IY`, rule R140. -/
  | add_IY_IY
  /-- `ADD IY,SP`, rule R140. -/
  | add_IY_SP
  /-- `INC IY`, rule R138. -/
  | inc_IY
  /-- `DEC IY`, rule R139. -/
  | dec_IY
  /-- `INC IYH`, rule R136. -/
  | inc_IYH
  /-- `DEC IYH`, rule R137. -/
  | dec_IYH
  /-- `INC IYL`, rule R136. -/
  | inc_IYL
  /-- `DEC IYL`, rule R137. -/
  | dec_IYL
  /-- `LD B,IYH`, rule R310. -/
  | ld_B_IYH
  /-- `LD B,IYL`, rule R310. -/
  | ld_B_IYL
  /-- `LD C,IYH`, rule R310. -/
  | ld_C_IYH
  /-- `LD C,IYL`, rule R310. -/
  | ld_C_IYL
  /-- `LD D,IYH`, rule R310. -/
  | ld_D_IYH
  /-- `LD D,IYL`, rule R310. -/
  | ld_D_IYL
  /-- `LD E,IYH`, rule R310. -/
  | ld_E_IYH
  /-- `LD E,IYL`, rule R310. -/
  | ld_E_IYL
  /-- `LD IYH,B`, rule R310. -/
  | ld_IYH_B
  /-- `LD IYH,C`, rule R310. -/
  | ld_IYH_C
  /-- `LD IYH,D`, rule R310. -/
  | ld_IYH_D
  /-- `LD IYH,E`, rule R310. -/
  | ld_IYH_E
  /-- `LD IYH,IYH`, rule R310. -/
  | ld_IYH_IYH
  /-- `LD IYH,IYL`, rule R310. -/
  | ld_IYH_IYL
  /-- `LD IYH,A`, rule R310. -/
  | ld_IYH_A
  /-- `LD IYL,B`, rule R310. -/
  | ld_IYL_B
  /-- `LD IYL,C`, rule R310. -/
  | ld_IYL_C
  /-- `LD IYL,D`, rule R310. -/
  | ld_IYL_D
  /-- `LD IYL,E`, rule R310. -/
  | ld_IYL_E
  /-- `LD IYL,IYH`, rule R310. -/
  | ld_IYL_IYH
  /-- `LD IYL,IYL`, rule R310. -/
  | ld_IYL_IYL
  /-- `LD IYL,A`, rule R310. -/
  | ld_IYL_A
  /-- `LD A,IYH`, rule R310. -/
  | ld_A_IYH
  /-- `LD A,IYL`, rule R310. -/
  | ld_A_IYL
  /-- `ADD A,IYH`, rule R130. -/
  | add_A_IYH
  /-- `ADD A,IYL`, rule R130. -/
  | add_A_IYL
  /-- `ADC A,IYH`, rule R131. -/
  | adc_A_IYH
  /-- `ADC A,IYL`, rule R131. -/
  | adc_A_IYL
  /-- `SUB IYH`, rule R132. -/
  | sub_IYH
  /-- `SUB IYL`, rule R132. -/
  | sub_IYL
  /-- `SBC A,IYH`, rule R133. -/
  | sbc_A_IYH
  /-- `SBC A,IYL`, rule R133. -/
  | sbc_A_IYL
  /-- `AND IYH`, rule R170. -/
  | and_IYH
  /-- `AND IYL`, rule R170. -/
  | and_IYL
  /-- `XOR IYH`, rule R172. -/
  | xor_IYH
  /-- `XOR IYL`, rule R172. -/
  | xor_IYL
  /-- `OR IYH`, rule R171. -/
  | or_IYH
  /-- `OR IYL`, rule R171. -/
  | or_IYL
  /-- `CP IYH`, rule R134. -/
  | cp_IYH
  /-- `CP IYL`, rule R134. -/
  | cp_IYL
  /-- `POP IY`, rule R269. -/
  | pop_IY
  /-- `PUSH IY`, rule R268. -/
  | push_IY
  /-- `EX (SP),IY`, rule R263. -/
  | ex_atSP_IY
  /-- `JP (IY)`, rule R202. -/
  | jp_IY
  /-- `LD SP,IY`, rule R322. -/
  | ld_SP_IY
deriving DecidableEq, Repr

end Sys2Proof
end

