-- ==== Sys2Proof/WellFormed.lean ====
section
/-! DEFINITION. Which terms of `Instr` are instructions: the bit index of `BIT`, `RES` and `SET` is 0 to 7 (rule R102).
Every other operand has exactly the values its encoding field has. -/

namespace Sys2Proof

/-- An instruction that has an encoding: a bit index is "any integer from [0,7]" (rule R102). -/
def Instr.wellFormed (i : Instr) : Bool :=
  match i with
  | .bit_b_B b => decide (b < 8)
  | .bit_b_C b => decide (b < 8)
  | .bit_b_D b => decide (b < 8)
  | .bit_b_E b => decide (b < 8)
  | .bit_b_H b => decide (b < 8)
  | .bit_b_L b => decide (b < 8)
  | .bit_b_atHL b => decide (b < 8)
  | .bit_b_A b => decide (b < 8)
  | .res_b_B b => decide (b < 8)
  | .res_b_C b => decide (b < 8)
  | .res_b_D b => decide (b < 8)
  | .res_b_E b => decide (b < 8)
  | .res_b_H b => decide (b < 8)
  | .res_b_L b => decide (b < 8)
  | .res_b_atHL b => decide (b < 8)
  | .res_b_A b => decide (b < 8)
  | .set_b_B b => decide (b < 8)
  | .set_b_C b => decide (b < 8)
  | .set_b_D b => decide (b < 8)
  | .set_b_E b => decide (b < 8)
  | .set_b_H b => decide (b < 8)
  | .set_b_L b => decide (b < 8)
  | .set_b_atHL b => decide (b < 8)
  | .set_b_A b => decide (b < 8)
  | .bit_b_atIXd b _ => decide (b < 8)
  | .res_b_atIXd b _ => decide (b < 8)
  | .set_b_atIXd b _ => decide (b < 8)
  | .bit_b_atIYd b _ => decide (b < 8)
  | .res_b_atIYd b _ => decide (b < 8)
  | .set_b_atIYd b _ => decide (b < 8)
  | .nop | .ex_AF_AFshadow | .djnz_e _ | .jr_e _ | .jr_NZ_e _ | .jr_Z_e _ | .jr_NC_e _ | .jr_C_e _
  | .ld_BC_nn _ | .add_HL_BC | .inc_BC | .dec_BC | .ld_DE_nn _ | .add_HL_DE | .inc_DE | .dec_DE | .ld_HL_nn _
  | .add_HL_HL | .inc_HL | .dec_HL | .ld_SP_nn _ | .add_HL_SP | .inc_SP | .dec_SP | .ld_atBC_A | .ld_atDE_A
  | .ld_atNn_HL _ | .ld_atNn_A _ | .ld_A_atBC | .ld_A_atDE | .ld_HL_atNn _ | .ld_A_atNn _ | .inc_B | .dec_B
  | .ld_B_n _ | .inc_C | .dec_C | .ld_C_n _ | .inc_D | .dec_D | .ld_D_n _ | .inc_E | .dec_E | .ld_E_n _
  | .inc_H | .dec_H | .ld_H_n _ | .inc_L | .dec_L | .ld_L_n _ | .inc_atHL | .dec_atHL | .ld_atHL_n _ | .inc_A
  | .dec_A | .ld_A_n _ | .rlca | .rrca | .rla | .rra | .daa | .cpl | .scf | .ccf | .ld_B_B | .ld_B_C | .ld_B_D
  | .ld_B_E | .ld_B_H | .ld_B_L | .ld_B_atHL | .ld_B_A | .ld_C_B | .ld_C_C | .ld_C_D | .ld_C_E | .ld_C_H
  | .ld_C_L | .ld_C_atHL | .ld_C_A | .ld_D_B | .ld_D_C | .ld_D_D | .ld_D_E | .ld_D_H | .ld_D_L | .ld_D_atHL
  | .ld_D_A | .ld_E_B | .ld_E_C | .ld_E_D | .ld_E_E | .ld_E_H | .ld_E_L | .ld_E_atHL | .ld_E_A | .ld_H_B
  | .ld_H_C | .ld_H_D | .ld_H_E | .ld_H_H | .ld_H_L | .ld_H_atHL | .ld_H_A | .ld_L_B | .ld_L_C | .ld_L_D
  | .ld_L_E | .ld_L_H | .ld_L_L | .ld_L_atHL | .ld_L_A | .ld_atHL_B | .ld_atHL_C | .ld_atHL_D | .ld_atHL_E
  | .ld_atHL_H | .ld_atHL_L | .halt | .ld_atHL_A | .ld_A_B | .ld_A_C | .ld_A_D | .ld_A_E | .ld_A_H | .ld_A_L
  | .ld_A_atHL | .ld_A_A | .add_A_B | .add_A_C | .add_A_D | .add_A_E | .add_A_H | .add_A_L | .add_A_atHL
  | .add_A_A | .add_A_n _ | .adc_A_B | .adc_A_C | .adc_A_D | .adc_A_E | .adc_A_H | .adc_A_L | .adc_A_atHL
  | .adc_A_A | .adc_A_n _ | .sub_B | .sub_C | .sub_D | .sub_E | .sub_H | .sub_L | .sub_atHL | .sub_A | .sub_n _
  | .sbc_A_B | .sbc_A_C | .sbc_A_D | .sbc_A_E | .sbc_A_H | .sbc_A_L | .sbc_A_atHL | .sbc_A_A | .sbc_A_n _
  | .and_B | .and_C | .and_D | .and_E | .and_H | .and_L | .and_atHL | .and_A | .and_n _ | .xor_B | .xor_C
  | .xor_D | .xor_E | .xor_H | .xor_L | .xor_atHL | .xor_A | .xor_n _ | .or_B | .or_C | .or_D | .or_E | .or_H
  | .or_L | .or_atHL | .or_A | .or_n _ | .cp_B | .cp_C | .cp_D | .cp_E | .cp_H | .cp_L | .cp_atHL | .cp_A
  | .cp_n _ | .ret_NZ | .jp_NZ_nn _ | .call_NZ_nn _ | .rst_00 | .ret_Z | .jp_Z_nn _ | .call_Z_nn _ | .rst_08
  | .ret_NC | .jp_NC_nn _ | .call_NC_nn _ | .rst_10 | .ret_C | .jp_C_nn _ | .call_C_nn _ | .rst_18 | .ret_PO
  | .jp_PO_nn _ | .call_PO_nn _ | .rst_20 | .ret_PE | .jp_PE_nn _ | .call_PE_nn _ | .rst_28 | .ret_P
  | .jp_P_nn _ | .call_P_nn _ | .rst_30 | .ret_M | .jp_M_nn _ | .call_M_nn _ | .rst_38 | .pop_BC | .push_BC
  | .pop_DE | .push_DE | .pop_HL | .push_HL | .pop_AF | .push_AF | .ret | .exx | .jp_HL | .ld_SP_HL | .jp_nn _
  | .out_atN_A _ | .in_A_atN _ | .ex_atSP_HL | .ex_DE_HL | .di | .ei | .call_nn _ | .rlc_B | .rlc_C | .rlc_D
  | .rlc_E | .rlc_H | .rlc_L | .rlc_atHL | .rlc_A | .rrc_B | .rrc_C | .rrc_D | .rrc_E | .rrc_H | .rrc_L
  | .rrc_atHL | .rrc_A | .rl_B | .rl_C | .rl_D | .rl_E | .rl_H | .rl_L | .rl_atHL | .rl_A | .rr_B | .rr_C
  | .rr_D | .rr_E | .rr_H | .rr_L | .rr_atHL | .rr_A | .sla_B | .sla_C | .sla_D | .sla_E | .sla_H | .sla_L
  | .sla_atHL | .sla_A | .sra_B | .sra_C | .sra_D | .sra_E | .sra_H | .sra_L | .sra_atHL | .sra_A | .sll_B
  | .sll_C | .sll_D | .sll_E | .sll_H | .sll_L | .sll_atHL | .sll_A | .srl_B | .srl_C | .srl_D | .srl_E
  | .srl_H | .srl_L | .srl_atHL | .srl_A | .in_B_atC | .out_atC_B | .in_C_atC | .out_atC_C | .in_D_atC
  | .out_atC_D | .in_E_atC | .out_atC_E | .in_H_atC | .out_atC_H | .in_L_atC | .out_atC_L | .in_atC
  | .out_atC_0 | .in_A_atC | .out_atC_A | .sbc_HL_BC | .adc_HL_BC | .ld_atNn_BC _ | .ld_BC_atNn _ | .sbc_HL_DE
  | .adc_HL_DE | .ld_atNn_DE _ | .ld_DE_atNn _ | .sbc_HL_HL | .adc_HL_HL | .ld_atNn_HL_ed _ | .ld_HL_atNn_ed _
  | .sbc_HL_SP | .adc_HL_SP | .ld_atNn_SP _ | .ld_SP_atNn _ | .neg | .retn | .reti | .im_0 | .im_1 | .im_2
  | .ld_I_A | .ld_R_A | .ld_A_I | .ld_A_R | .rrd | .rld | .ldi | .cpi | .ini | .outi | .ldd | .cpd | .ind
  | .outd | .ldir | .cpir | .inir | .otir | .lddr | .cpdr | .indr | .otdr | .add_IX_BC | .add_IX_DE
  | .add_IX_IX | .add_IX_SP | .ld_IX_nn _ | .ld_atNn_IX _ | .ld_IX_atNn _ | .inc_IX | .dec_IX | .inc_IXH
  | .dec_IXH | .ld_IXH_n _ | .inc_IXL | .dec_IXL | .ld_IXL_n _ | .inc_atIXd _ | .dec_atIXd _ | .ld_atIXd_n _ _
  | .ld_B_IXH | .ld_B_IXL | .ld_B_atIXd _ | .ld_C_IXH | .ld_C_IXL | .ld_C_atIXd _ | .ld_D_IXH | .ld_D_IXL
  | .ld_D_atIXd _ | .ld_E_IXH | .ld_E_IXL | .ld_E_atIXd _ | .ld_IXH_B | .ld_IXH_C | .ld_IXH_D | .ld_IXH_E
  | .ld_IXH_IXH | .ld_IXH_IXL | .ld_H_atIXd _ | .ld_IXH_A | .ld_IXL_B | .ld_IXL_C | .ld_IXL_D | .ld_IXL_E
  | .ld_IXL_IXH | .ld_IXL_IXL | .ld_L_atIXd _ | .ld_IXL_A | .ld_atIXd_B _ | .ld_atIXd_C _ | .ld_atIXd_D _
  | .ld_atIXd_E _ | .ld_atIXd_H _ | .ld_atIXd_L _ | .ld_atIXd_A _ | .ld_A_IXH | .ld_A_IXL | .ld_A_atIXd _
  | .add_A_IXH | .add_A_IXL | .add_A_atIXd _ | .adc_A_IXH | .adc_A_IXL | .adc_A_atIXd _ | .sub_IXH | .sub_IXL
  | .sub_atIXd _ | .sbc_A_IXH | .sbc_A_IXL | .sbc_A_atIXd _ | .and_IXH | .and_IXL | .and_atIXd _ | .xor_IXH
  | .xor_IXL | .xor_atIXd _ | .or_IXH | .or_IXL | .or_atIXd _ | .cp_IXH | .cp_IXL | .cp_atIXd _ | .pop_IX
  | .push_IX | .ex_atSP_IX | .jp_IX | .ld_SP_IX | .rlc_atIXd _ | .rrc_atIXd _ | .rl_atIXd _ | .rr_atIXd _
  | .sla_atIXd _ | .sra_atIXd _ | .sll_atIXd _ | .srl_atIXd _ | .add_IY_BC | .add_IY_DE | .add_IY_IY
  | .add_IY_SP | .ld_IY_nn _ | .ld_atNn_IY _ | .ld_IY_atNn _ | .inc_IY | .dec_IY | .inc_IYH | .dec_IYH
  | .ld_IYH_n _ | .inc_IYL | .dec_IYL | .ld_IYL_n _ | .inc_atIYd _ | .dec_atIYd _ | .ld_atIYd_n _ _ | .ld_B_IYH
  | .ld_B_IYL | .ld_B_atIYd _ | .ld_C_IYH | .ld_C_IYL | .ld_C_atIYd _ | .ld_D_IYH | .ld_D_IYL | .ld_D_atIYd _
  | .ld_E_IYH | .ld_E_IYL | .ld_E_atIYd _ | .ld_IYH_B | .ld_IYH_C | .ld_IYH_D | .ld_IYH_E | .ld_IYH_IYH
  | .ld_IYH_IYL | .ld_H_atIYd _ | .ld_IYH_A | .ld_IYL_B | .ld_IYL_C | .ld_IYL_D | .ld_IYL_E | .ld_IYL_IYH
  | .ld_IYL_IYL | .ld_L_atIYd _ | .ld_IYL_A | .ld_atIYd_B _ | .ld_atIYd_C _ | .ld_atIYd_D _ | .ld_atIYd_E _
  | .ld_atIYd_H _ | .ld_atIYd_L _ | .ld_atIYd_A _ | .ld_A_IYH | .ld_A_IYL | .ld_A_atIYd _ | .add_A_IYH
  | .add_A_IYL | .add_A_atIYd _ | .adc_A_IYH | .adc_A_IYL | .adc_A_atIYd _ | .sub_IYH | .sub_IYL | .sub_atIYd _
  | .sbc_A_IYH | .sbc_A_IYL | .sbc_A_atIYd _ | .and_IYH | .and_IYL | .and_atIYd _ | .xor_IYH | .xor_IYL
  | .xor_atIYd _ | .or_IYH | .or_IYL | .or_atIYd _ | .cp_IYH | .cp_IYL | .cp_atIYd _ | .pop_IY | .push_IY
  | .ex_atSP_IY | .jp_IY | .ld_SP_IY | .rlc_atIYd _ | .rrc_atIYd _ | .rl_atIYd _ | .rr_atIYd _ | .sla_atIYd _
  | .sra_atIYd _ | .sll_atIYd _ | .srl_atIYd _ => true

end Sys2Proof
end

