-- ==== Sys2Proof/Decode.lean ====
section
/-! DEFINITION. The binary encoding (30_encoding.md): the opcode pages as 16 by 16 grids, rows the high and columns
the low hex digit as rule R107 prints them; the decoder, total on any bytes and rejecting by name (rule R118); and
the encoder, written from the encoding line of each instruction's own rule. Also the byte helpers both use. -/

namespace Sys2Proof

/-! ### Bytes and words -/

/-- `hi ++ lo`: a word from its two bytes (rules R7, R104). -/
def joinBytes (hi lo : Byte) : Word := hi ++ lo

/-- The more significant byte, `w[15:8]`. -/
def hiByte (w : Word) : Byte := w.extractLsb' 8 8

/-- The less significant byte, `w[7:0]`. -/
def loByte (w : Word) : Byte := w.extractLsb' 0 8

/-! ### The opcode pages -/

/-- A cell of an opcode page: the instruction, and which operand bytes follow its opcode (rule R93). -/
inductive Cell where
  /-- No row of the opcode table (rule R118), or a byte that selects another page. -/
  | hole
  /-- No operand bytes. -/
  | op (i : Instr)
  /-- One operand byte: `n`, `d` or `e`. -/
  | byte (mk : Byte → Instr)
  /-- `nn`, low byte first (rule R104). -/
  | word (mk : Word → Instr)
  /-- `d`, then `n` (format `XY_OP_D_N`). -/
  | twoBytes (mk : Byte → Byte → Instr)
  /-- The displacement that stands before the opcode (format `XY_CB_D_OP`, rule R111). -/
  | disp (mk : Byte → Instr)

/-- Sixteen rows of sixteen cells. -/
abbrev Page := List (List Cell)

/-- A row of sixteen holes. -/
def holes : List Cell := List.replicate 16 .hole

/-- The `n`-th entry of a list. -/
def entryAt {α : Type} : List α → Nat → Option α
  | [], _ => none
  | x :: _, 0 => some x
  | _ :: xs, n + 1 => entryAt xs n

/-- The cell of an opcode: row `op[7:4]`, column `op[3:0]`. -/
def Page.cellAt (page : Page) (op : Byte) : Cell :=
  match entryAt page (op.toNat / 16) with
  | none => .hole
  | some row =>
    match entryAt row (op.toNat % 16) with
    | none => .hole
    | some cell => cell

/-- The main page (rule R107); the four prefix bytes are holes here. -/
def mainPage : Page := [
  [.op .nop, .word .ld_BC_nn, .op .ld_atBC_A, .op .inc_BC, .op .inc_B, .op .dec_B, .byte .ld_B_n, .op .rlca,
    .op .ex_AF_AFshadow, .op .add_HL_BC, .op .ld_A_atBC, .op .dec_BC, .op .inc_C, .op .dec_C, .byte .ld_C_n,
    .op .rrca],
  [.byte .djnz_e, .word .ld_DE_nn, .op .ld_atDE_A, .op .inc_DE, .op .inc_D, .op .dec_D, .byte .ld_D_n,
    .op .rla, .byte .jr_e, .op .add_HL_DE, .op .ld_A_atDE, .op .dec_DE, .op .inc_E, .op .dec_E, .byte .ld_E_n,
    .op .rra],
  [.byte .jr_NZ_e, .word .ld_HL_nn, .word .ld_atNn_HL, .op .inc_HL, .op .inc_H, .op .dec_H, .byte .ld_H_n,
    .op .daa, .byte .jr_Z_e, .op .add_HL_HL, .word .ld_HL_atNn, .op .dec_HL, .op .inc_L, .op .dec_L,
    .byte .ld_L_n, .op .cpl],
  [.byte .jr_NC_e, .word .ld_SP_nn, .word .ld_atNn_A, .op .inc_SP, .op .inc_atHL, .op .dec_atHL,
    .byte .ld_atHL_n, .op .scf, .byte .jr_C_e, .op .add_HL_SP, .word .ld_A_atNn, .op .dec_SP, .op .inc_A,
    .op .dec_A, .byte .ld_A_n, .op .ccf],
  [.op .ld_B_B, .op .ld_B_C, .op .ld_B_D, .op .ld_B_E, .op .ld_B_H, .op .ld_B_L, .op .ld_B_atHL, .op .ld_B_A,
    .op .ld_C_B, .op .ld_C_C, .op .ld_C_D, .op .ld_C_E, .op .ld_C_H, .op .ld_C_L, .op .ld_C_atHL, .op .ld_C_A],
  [.op .ld_D_B, .op .ld_D_C, .op .ld_D_D, .op .ld_D_E, .op .ld_D_H, .op .ld_D_L, .op .ld_D_atHL, .op .ld_D_A,
    .op .ld_E_B, .op .ld_E_C, .op .ld_E_D, .op .ld_E_E, .op .ld_E_H, .op .ld_E_L, .op .ld_E_atHL, .op .ld_E_A],
  [.op .ld_H_B, .op .ld_H_C, .op .ld_H_D, .op .ld_H_E, .op .ld_H_H, .op .ld_H_L, .op .ld_H_atHL, .op .ld_H_A,
    .op .ld_L_B, .op .ld_L_C, .op .ld_L_D, .op .ld_L_E, .op .ld_L_H, .op .ld_L_L, .op .ld_L_atHL, .op .ld_L_A],
  [.op .ld_atHL_B, .op .ld_atHL_C, .op .ld_atHL_D, .op .ld_atHL_E, .op .ld_atHL_H, .op .ld_atHL_L, .op .halt,
    .op .ld_atHL_A, .op .ld_A_B, .op .ld_A_C, .op .ld_A_D, .op .ld_A_E, .op .ld_A_H, .op .ld_A_L,
    .op .ld_A_atHL, .op .ld_A_A],
  [.op .add_A_B, .op .add_A_C, .op .add_A_D, .op .add_A_E, .op .add_A_H, .op .add_A_L, .op .add_A_atHL,
    .op .add_A_A, .op .adc_A_B, .op .adc_A_C, .op .adc_A_D, .op .adc_A_E, .op .adc_A_H, .op .adc_A_L,
    .op .adc_A_atHL, .op .adc_A_A],
  [.op .sub_B, .op .sub_C, .op .sub_D, .op .sub_E, .op .sub_H, .op .sub_L, .op .sub_atHL, .op .sub_A,
    .op .sbc_A_B, .op .sbc_A_C, .op .sbc_A_D, .op .sbc_A_E, .op .sbc_A_H, .op .sbc_A_L, .op .sbc_A_atHL,
    .op .sbc_A_A],
  [.op .and_B, .op .and_C, .op .and_D, .op .and_E, .op .and_H, .op .and_L, .op .and_atHL, .op .and_A,
    .op .xor_B, .op .xor_C, .op .xor_D, .op .xor_E, .op .xor_H, .op .xor_L, .op .xor_atHL, .op .xor_A],
  [.op .or_B, .op .or_C, .op .or_D, .op .or_E, .op .or_H, .op .or_L, .op .or_atHL, .op .or_A, .op .cp_B,
    .op .cp_C, .op .cp_D, .op .cp_E, .op .cp_H, .op .cp_L, .op .cp_atHL, .op .cp_A],
  [.op .ret_NZ, .op .pop_BC, .word .jp_NZ_nn, .word .jp_nn, .word .call_NZ_nn, .op .push_BC, .byte .add_A_n,
    .op .rst_00, .op .ret_Z, .op .ret, .word .jp_Z_nn, .hole, .word .call_Z_nn, .word .call_nn, .byte .adc_A_n,
    .op .rst_08],
  [.op .ret_NC, .op .pop_DE, .word .jp_NC_nn, .byte .out_atN_A, .word .call_NC_nn, .op .push_DE, .byte .sub_n,
    .op .rst_10, .op .ret_C, .op .exx, .word .jp_C_nn, .byte .in_A_atN, .word .call_C_nn, .hole, .byte .sbc_A_n,
    .op .rst_18],
  [.op .ret_PO, .op .pop_HL, .word .jp_PO_nn, .op .ex_atSP_HL, .word .call_PO_nn, .op .push_HL, .byte .and_n,
    .op .rst_20, .op .ret_PE, .op .jp_HL, .word .jp_PE_nn, .op .ex_DE_HL, .word .call_PE_nn, .hole,
    .byte .xor_n, .op .rst_28],
  [.op .ret_P, .op .pop_AF, .word .jp_P_nn, .op .di, .word .call_P_nn, .op .push_AF, .byte .or_n, .op .rst_30,
    .op .ret_M, .op .ld_SP_HL, .word .jp_M_nn, .op .ei, .word .call_M_nn, .hole, .byte .cp_n, .op .rst_38]]

/-- The `CB` page (rule R108): rotates and shifts, then `BIT`, `RES` and `SET` for each bit. -/
def cbPage : Page := [
  [.op .rlc_B, .op .rlc_C, .op .rlc_D, .op .rlc_E, .op .rlc_H, .op .rlc_L, .op .rlc_atHL, .op .rlc_A,
    .op .rrc_B, .op .rrc_C, .op .rrc_D, .op .rrc_E, .op .rrc_H, .op .rrc_L, .op .rrc_atHL, .op .rrc_A],
  [.op .rl_B, .op .rl_C, .op .rl_D, .op .rl_E, .op .rl_H, .op .rl_L, .op .rl_atHL, .op .rl_A, .op .rr_B,
    .op .rr_C, .op .rr_D, .op .rr_E, .op .rr_H, .op .rr_L, .op .rr_atHL, .op .rr_A],
  [.op .sla_B, .op .sla_C, .op .sla_D, .op .sla_E, .op .sla_H, .op .sla_L, .op .sla_atHL, .op .sla_A,
    .op .sra_B, .op .sra_C, .op .sra_D, .op .sra_E, .op .sra_H, .op .sra_L, .op .sra_atHL, .op .sra_A],
  [.op .sll_B, .op .sll_C, .op .sll_D, .op .sll_E, .op .sll_H, .op .sll_L, .op .sll_atHL, .op .sll_A,
    .op .srl_B, .op .srl_C, .op .srl_D, .op .srl_E, .op .srl_H, .op .srl_L, .op .srl_atHL, .op .srl_A],
  [.op (.bit_b_B 0), .op (.bit_b_C 0), .op (.bit_b_D 0), .op (.bit_b_E 0), .op (.bit_b_H 0), .op (.bit_b_L 0),
    .op (.bit_b_atHL 0), .op (.bit_b_A 0), .op (.bit_b_B 1), .op (.bit_b_C 1), .op (.bit_b_D 1),
    .op (.bit_b_E 1), .op (.bit_b_H 1), .op (.bit_b_L 1), .op (.bit_b_atHL 1), .op (.bit_b_A 1)],
  [.op (.bit_b_B 2), .op (.bit_b_C 2), .op (.bit_b_D 2), .op (.bit_b_E 2), .op (.bit_b_H 2), .op (.bit_b_L 2),
    .op (.bit_b_atHL 2), .op (.bit_b_A 2), .op (.bit_b_B 3), .op (.bit_b_C 3), .op (.bit_b_D 3),
    .op (.bit_b_E 3), .op (.bit_b_H 3), .op (.bit_b_L 3), .op (.bit_b_atHL 3), .op (.bit_b_A 3)],
  [.op (.bit_b_B 4), .op (.bit_b_C 4), .op (.bit_b_D 4), .op (.bit_b_E 4), .op (.bit_b_H 4), .op (.bit_b_L 4),
    .op (.bit_b_atHL 4), .op (.bit_b_A 4), .op (.bit_b_B 5), .op (.bit_b_C 5), .op (.bit_b_D 5),
    .op (.bit_b_E 5), .op (.bit_b_H 5), .op (.bit_b_L 5), .op (.bit_b_atHL 5), .op (.bit_b_A 5)],
  [.op (.bit_b_B 6), .op (.bit_b_C 6), .op (.bit_b_D 6), .op (.bit_b_E 6), .op (.bit_b_H 6), .op (.bit_b_L 6),
    .op (.bit_b_atHL 6), .op (.bit_b_A 6), .op (.bit_b_B 7), .op (.bit_b_C 7), .op (.bit_b_D 7),
    .op (.bit_b_E 7), .op (.bit_b_H 7), .op (.bit_b_L 7), .op (.bit_b_atHL 7), .op (.bit_b_A 7)],
  [.op (.res_b_B 0), .op (.res_b_C 0), .op (.res_b_D 0), .op (.res_b_E 0), .op (.res_b_H 0), .op (.res_b_L 0),
    .op (.res_b_atHL 0), .op (.res_b_A 0), .op (.res_b_B 1), .op (.res_b_C 1), .op (.res_b_D 1),
    .op (.res_b_E 1), .op (.res_b_H 1), .op (.res_b_L 1), .op (.res_b_atHL 1), .op (.res_b_A 1)],
  [.op (.res_b_B 2), .op (.res_b_C 2), .op (.res_b_D 2), .op (.res_b_E 2), .op (.res_b_H 2), .op (.res_b_L 2),
    .op (.res_b_atHL 2), .op (.res_b_A 2), .op (.res_b_B 3), .op (.res_b_C 3), .op (.res_b_D 3),
    .op (.res_b_E 3), .op (.res_b_H 3), .op (.res_b_L 3), .op (.res_b_atHL 3), .op (.res_b_A 3)],
  [.op (.res_b_B 4), .op (.res_b_C 4), .op (.res_b_D 4), .op (.res_b_E 4), .op (.res_b_H 4), .op (.res_b_L 4),
    .op (.res_b_atHL 4), .op (.res_b_A 4), .op (.res_b_B 5), .op (.res_b_C 5), .op (.res_b_D 5),
    .op (.res_b_E 5), .op (.res_b_H 5), .op (.res_b_L 5), .op (.res_b_atHL 5), .op (.res_b_A 5)],
  [.op (.res_b_B 6), .op (.res_b_C 6), .op (.res_b_D 6), .op (.res_b_E 6), .op (.res_b_H 6), .op (.res_b_L 6),
    .op (.res_b_atHL 6), .op (.res_b_A 6), .op (.res_b_B 7), .op (.res_b_C 7), .op (.res_b_D 7),
    .op (.res_b_E 7), .op (.res_b_H 7), .op (.res_b_L 7), .op (.res_b_atHL 7), .op (.res_b_A 7)],
  [.op (.set_b_B 0), .op (.set_b_C 0), .op (.set_b_D 0), .op (.set_b_E 0), .op (.set_b_H 0), .op (.set_b_L 0),
    .op (.set_b_atHL 0), .op (.set_b_A 0), .op (.set_b_B 1), .op (.set_b_C 1), .op (.set_b_D 1),
    .op (.set_b_E 1), .op (.set_b_H 1), .op (.set_b_L 1), .op (.set_b_atHL 1), .op (.set_b_A 1)],
  [.op (.set_b_B 2), .op (.set_b_C 2), .op (.set_b_D 2), .op (.set_b_E 2), .op (.set_b_H 2), .op (.set_b_L 2),
    .op (.set_b_atHL 2), .op (.set_b_A 2), .op (.set_b_B 3), .op (.set_b_C 3), .op (.set_b_D 3),
    .op (.set_b_E 3), .op (.set_b_H 3), .op (.set_b_L 3), .op (.set_b_atHL 3), .op (.set_b_A 3)],
  [.op (.set_b_B 4), .op (.set_b_C 4), .op (.set_b_D 4), .op (.set_b_E 4), .op (.set_b_H 4), .op (.set_b_L 4),
    .op (.set_b_atHL 4), .op (.set_b_A 4), .op (.set_b_B 5), .op (.set_b_C 5), .op (.set_b_D 5),
    .op (.set_b_E 5), .op (.set_b_H 5), .op (.set_b_L 5), .op (.set_b_atHL 5), .op (.set_b_A 5)],
  [.op (.set_b_B 6), .op (.set_b_C 6), .op (.set_b_D 6), .op (.set_b_E 6), .op (.set_b_H 6), .op (.set_b_L 6),
    .op (.set_b_atHL 6), .op (.set_b_A 6), .op (.set_b_B 7), .op (.set_b_C 7), .op (.set_b_D 7),
    .op (.set_b_E 7), .op (.set_b_H 7), .op (.set_b_L 7), .op (.set_b_atHL 7), .op (.set_b_A 7)]]

/-- The `ED` page (rule R109). -/
def edPage : Page := [
  holes,
  holes,
  holes,
  holes,
  [.op .in_B_atC, .op .out_atC_B, .op .sbc_HL_BC, .word .ld_atNn_BC, .op .neg, .op .retn, .op .im_0,
    .op .ld_I_A, .op .in_C_atC, .op .out_atC_C, .op .adc_HL_BC, .word .ld_BC_atNn, .hole, .op .reti, .hole,
    .op .ld_R_A],
  [.op .in_D_atC, .op .out_atC_D, .op .sbc_HL_DE, .word .ld_atNn_DE, .hole, .hole, .op .im_1, .op .ld_A_I,
    .op .in_E_atC, .op .out_atC_E, .op .adc_HL_DE, .word .ld_DE_atNn, .hole, .hole, .op .im_2, .op .ld_A_R],
  [.op .in_H_atC, .op .out_atC_H, .op .sbc_HL_HL, .word .ld_atNn_HL_ed, .hole, .hole, .hole, .op .rrd,
    .op .in_L_atC, .op .out_atC_L, .op .adc_HL_HL, .word .ld_HL_atNn_ed, .hole, .hole, .hole, .op .rld],
  [.op .in_atC, .op .out_atC_0, .op .sbc_HL_SP, .word .ld_atNn_SP, .hole, .hole, .hole, .hole, .op .in_A_atC,
    .op .out_atC_A, .op .adc_HL_SP, .word .ld_SP_atNn, .hole, .hole, .hole, .hole],
  holes,
  holes,
  [.op .ldi, .op .cpi, .op .ini, .op .outi, .hole, .hole, .hole, .hole, .op .ldd, .op .cpd, .op .ind,
    .op .outd, .hole, .hole, .hole, .hole],
  [.op .ldir, .op .cpir, .op .inir, .op .otir, .hole, .hole, .hole, .hole, .op .lddr, .op .cpdr, .op .indr,
    .op .otdr, .hole, .hole, .hole, .hole],
  holes,
  holes,
  holes,
  holes]

/-- The `DD` page, the forms on `IX` (rules R110, R112). -/
def ddPage : Page := [
  [.hole, .hole, .hole, .hole, .hole, .hole, .hole, .hole, .hole, .op .add_IX_BC, .hole, .hole, .hole, .hole,
    .hole, .hole],
  [.hole, .hole, .hole, .hole, .hole, .hole, .hole, .hole, .hole, .op .add_IX_DE, .hole, .hole, .hole, .hole,
    .hole, .hole],
  [.hole, .word .ld_IX_nn, .word .ld_atNn_IX, .op .inc_IX, .op .inc_IXH, .op .dec_IXH, .byte .ld_IXH_n, .hole,
    .hole, .op .add_IX_IX, .word .ld_IX_atNn, .op .dec_IX, .op .inc_IXL, .op .dec_IXL, .byte .ld_IXL_n, .hole],
  [.hole, .hole, .hole, .hole, .byte .inc_atIXd, .byte .dec_atIXd, .twoBytes .ld_atIXd_n, .hole, .hole,
    .op .add_IX_SP, .hole, .hole, .hole, .hole, .hole, .hole],
  [.hole, .hole, .hole, .hole, .op .ld_B_IXH, .op .ld_B_IXL, .byte .ld_B_atIXd, .hole, .hole, .hole, .hole,
    .hole, .op .ld_C_IXH, .op .ld_C_IXL, .byte .ld_C_atIXd, .hole],
  [.hole, .hole, .hole, .hole, .op .ld_D_IXH, .op .ld_D_IXL, .byte .ld_D_atIXd, .hole, .hole, .hole, .hole,
    .hole, .op .ld_E_IXH, .op .ld_E_IXL, .byte .ld_E_atIXd, .hole],
  [.op .ld_IXH_B, .op .ld_IXH_C, .op .ld_IXH_D, .op .ld_IXH_E, .op .ld_IXH_IXH, .op .ld_IXH_IXL,
    .byte .ld_H_atIXd, .op .ld_IXH_A, .op .ld_IXL_B, .op .ld_IXL_C, .op .ld_IXL_D, .op .ld_IXL_E,
    .op .ld_IXL_IXH, .op .ld_IXL_IXL, .byte .ld_L_atIXd, .op .ld_IXL_A],
  [.byte .ld_atIXd_B, .byte .ld_atIXd_C, .byte .ld_atIXd_D, .byte .ld_atIXd_E, .byte .ld_atIXd_H,
    .byte .ld_atIXd_L, .hole, .byte .ld_atIXd_A, .hole, .hole, .hole, .hole, .op .ld_A_IXH, .op .ld_A_IXL,
    .byte .ld_A_atIXd, .hole],
  [.hole, .hole, .hole, .hole, .op .add_A_IXH, .op .add_A_IXL, .byte .add_A_atIXd, .hole, .hole, .hole, .hole,
    .hole, .op .adc_A_IXH, .op .adc_A_IXL, .byte .adc_A_atIXd, .hole],
  [.hole, .hole, .hole, .hole, .op .sub_IXH, .op .sub_IXL, .byte .sub_atIXd, .hole, .hole, .hole, .hole, .hole,
    .op .sbc_A_IXH, .op .sbc_A_IXL, .byte .sbc_A_atIXd, .hole],
  [.hole, .hole, .hole, .hole, .op .and_IXH, .op .and_IXL, .byte .and_atIXd, .hole, .hole, .hole, .hole, .hole,
    .op .xor_IXH, .op .xor_IXL, .byte .xor_atIXd, .hole],
  [.hole, .hole, .hole, .hole, .op .or_IXH, .op .or_IXL, .byte .or_atIXd, .hole, .hole, .hole, .hole, .hole,
    .op .cp_IXH, .op .cp_IXL, .byte .cp_atIXd, .hole],
  holes,
  holes,
  [.hole, .op .pop_IX, .hole, .op .ex_atSP_IX, .hole, .op .push_IX, .hole, .hole, .hole, .op .jp_IX, .hole,
    .hole, .hole, .hole, .hole, .hole],
  [.hole, .hole, .hole, .hole, .hole, .hole, .hole, .hole, .hole, .op .ld_SP_IX, .hole, .hole, .hole, .hole,
    .hole, .hole]]

/-- The `FD` page, the forms on `IY` (rules R110, R112). -/
def fdPage : Page := [
  [.hole, .hole, .hole, .hole, .hole, .hole, .hole, .hole, .hole, .op .add_IY_BC, .hole, .hole, .hole, .hole,
    .hole, .hole],
  [.hole, .hole, .hole, .hole, .hole, .hole, .hole, .hole, .hole, .op .add_IY_DE, .hole, .hole, .hole, .hole,
    .hole, .hole],
  [.hole, .word .ld_IY_nn, .word .ld_atNn_IY, .op .inc_IY, .op .inc_IYH, .op .dec_IYH, .byte .ld_IYH_n, .hole,
    .hole, .op .add_IY_IY, .word .ld_IY_atNn, .op .dec_IY, .op .inc_IYL, .op .dec_IYL, .byte .ld_IYL_n, .hole],
  [.hole, .hole, .hole, .hole, .byte .inc_atIYd, .byte .dec_atIYd, .twoBytes .ld_atIYd_n, .hole, .hole,
    .op .add_IY_SP, .hole, .hole, .hole, .hole, .hole, .hole],
  [.hole, .hole, .hole, .hole, .op .ld_B_IYH, .op .ld_B_IYL, .byte .ld_B_atIYd, .hole, .hole, .hole, .hole,
    .hole, .op .ld_C_IYH, .op .ld_C_IYL, .byte .ld_C_atIYd, .hole],
  [.hole, .hole, .hole, .hole, .op .ld_D_IYH, .op .ld_D_IYL, .byte .ld_D_atIYd, .hole, .hole, .hole, .hole,
    .hole, .op .ld_E_IYH, .op .ld_E_IYL, .byte .ld_E_atIYd, .hole],
  [.op .ld_IYH_B, .op .ld_IYH_C, .op .ld_IYH_D, .op .ld_IYH_E, .op .ld_IYH_IYH, .op .ld_IYH_IYL,
    .byte .ld_H_atIYd, .op .ld_IYH_A, .op .ld_IYL_B, .op .ld_IYL_C, .op .ld_IYL_D, .op .ld_IYL_E,
    .op .ld_IYL_IYH, .op .ld_IYL_IYL, .byte .ld_L_atIYd, .op .ld_IYL_A],
  [.byte .ld_atIYd_B, .byte .ld_atIYd_C, .byte .ld_atIYd_D, .byte .ld_atIYd_E, .byte .ld_atIYd_H,
    .byte .ld_atIYd_L, .hole, .byte .ld_atIYd_A, .hole, .hole, .hole, .hole, .op .ld_A_IYH, .op .ld_A_IYL,
    .byte .ld_A_atIYd, .hole],
  [.hole, .hole, .hole, .hole, .op .add_A_IYH, .op .add_A_IYL, .byte .add_A_atIYd, .hole, .hole, .hole, .hole,
    .hole, .op .adc_A_IYH, .op .adc_A_IYL, .byte .adc_A_atIYd, .hole],
  [.hole, .hole, .hole, .hole, .op .sub_IYH, .op .sub_IYL, .byte .sub_atIYd, .hole, .hole, .hole, .hole, .hole,
    .op .sbc_A_IYH, .op .sbc_A_IYL, .byte .sbc_A_atIYd, .hole],
  [.hole, .hole, .hole, .hole, .op .and_IYH, .op .and_IYL, .byte .and_atIYd, .hole, .hole, .hole, .hole, .hole,
    .op .xor_IYH, .op .xor_IYL, .byte .xor_atIYd, .hole],
  [.hole, .hole, .hole, .hole, .op .or_IYH, .op .or_IYL, .byte .or_atIYd, .hole, .hole, .hole, .hole, .hole,
    .op .cp_IYH, .op .cp_IYL, .byte .cp_atIYd, .hole],
  holes,
  holes,
  [.hole, .op .pop_IY, .hole, .op .ex_atSP_IY, .hole, .op .push_IY, .hole, .hole, .hole, .op .jp_IY, .hole,
    .hole, .hole, .hole, .hole, .hole],
  [.hole, .hole, .hole, .hole, .hole, .hole, .hole, .hole, .hole, .op .ld_SP_IY, .hole, .hole, .hole, .hole,
    .hole, .hole]]

/-- The `DD CB d op` page (rule R111). -/
def ddcbPage : Page := [
  [.hole, .hole, .hole, .hole, .hole, .hole, .disp .rlc_atIXd, .hole, .hole, .hole, .hole, .hole, .hole, .hole,
    .disp .rrc_atIXd, .hole],
  [.hole, .hole, .hole, .hole, .hole, .hole, .disp .rl_atIXd, .hole, .hole, .hole, .hole, .hole, .hole, .hole,
    .disp .rr_atIXd, .hole],
  [.hole, .hole, .hole, .hole, .hole, .hole, .disp .sla_atIXd, .hole, .hole, .hole, .hole, .hole, .hole, .hole,
    .disp .sra_atIXd, .hole],
  [.hole, .hole, .hole, .hole, .hole, .hole, .disp .sll_atIXd, .hole, .hole, .hole, .hole, .hole, .hole, .hole,
    .disp .srl_atIXd, .hole],
  [.hole, .hole, .hole, .hole, .hole, .hole, .disp (.bit_b_atIXd 0), .hole, .hole, .hole, .hole, .hole, .hole,
    .hole, .disp (.bit_b_atIXd 1), .hole],
  [.hole, .hole, .hole, .hole, .hole, .hole, .disp (.bit_b_atIXd 2), .hole, .hole, .hole, .hole, .hole, .hole,
    .hole, .disp (.bit_b_atIXd 3), .hole],
  [.hole, .hole, .hole, .hole, .hole, .hole, .disp (.bit_b_atIXd 4), .hole, .hole, .hole, .hole, .hole, .hole,
    .hole, .disp (.bit_b_atIXd 5), .hole],
  [.hole, .hole, .hole, .hole, .hole, .hole, .disp (.bit_b_atIXd 6), .hole, .hole, .hole, .hole, .hole, .hole,
    .hole, .disp (.bit_b_atIXd 7), .hole],
  [.hole, .hole, .hole, .hole, .hole, .hole, .disp (.res_b_atIXd 0), .hole, .hole, .hole, .hole, .hole, .hole,
    .hole, .disp (.res_b_atIXd 1), .hole],
  [.hole, .hole, .hole, .hole, .hole, .hole, .disp (.res_b_atIXd 2), .hole, .hole, .hole, .hole, .hole, .hole,
    .hole, .disp (.res_b_atIXd 3), .hole],
  [.hole, .hole, .hole, .hole, .hole, .hole, .disp (.res_b_atIXd 4), .hole, .hole, .hole, .hole, .hole, .hole,
    .hole, .disp (.res_b_atIXd 5), .hole],
  [.hole, .hole, .hole, .hole, .hole, .hole, .disp (.res_b_atIXd 6), .hole, .hole, .hole, .hole, .hole, .hole,
    .hole, .disp (.res_b_atIXd 7), .hole],
  [.hole, .hole, .hole, .hole, .hole, .hole, .disp (.set_b_atIXd 0), .hole, .hole, .hole, .hole, .hole, .hole,
    .hole, .disp (.set_b_atIXd 1), .hole],
  [.hole, .hole, .hole, .hole, .hole, .hole, .disp (.set_b_atIXd 2), .hole, .hole, .hole, .hole, .hole, .hole,
    .hole, .disp (.set_b_atIXd 3), .hole],
  [.hole, .hole, .hole, .hole, .hole, .hole, .disp (.set_b_atIXd 4), .hole, .hole, .hole, .hole, .hole, .hole,
    .hole, .disp (.set_b_atIXd 5), .hole],
  [.hole, .hole, .hole, .hole, .hole, .hole, .disp (.set_b_atIXd 6), .hole, .hole, .hole, .hole, .hole, .hole,
    .hole, .disp (.set_b_atIXd 7), .hole]]

/-- The `FD CB d op` page (rule R111). -/
def fdcbPage : Page := [
  [.hole, .hole, .hole, .hole, .hole, .hole, .disp .rlc_atIYd, .hole, .hole, .hole, .hole, .hole, .hole, .hole,
    .disp .rrc_atIYd, .hole],
  [.hole, .hole, .hole, .hole, .hole, .hole, .disp .rl_atIYd, .hole, .hole, .hole, .hole, .hole, .hole, .hole,
    .disp .rr_atIYd, .hole],
  [.hole, .hole, .hole, .hole, .hole, .hole, .disp .sla_atIYd, .hole, .hole, .hole, .hole, .hole, .hole, .hole,
    .disp .sra_atIYd, .hole],
  [.hole, .hole, .hole, .hole, .hole, .hole, .disp .sll_atIYd, .hole, .hole, .hole, .hole, .hole, .hole, .hole,
    .disp .srl_atIYd, .hole],
  [.hole, .hole, .hole, .hole, .hole, .hole, .disp (.bit_b_atIYd 0), .hole, .hole, .hole, .hole, .hole, .hole,
    .hole, .disp (.bit_b_atIYd 1), .hole],
  [.hole, .hole, .hole, .hole, .hole, .hole, .disp (.bit_b_atIYd 2), .hole, .hole, .hole, .hole, .hole, .hole,
    .hole, .disp (.bit_b_atIYd 3), .hole],
  [.hole, .hole, .hole, .hole, .hole, .hole, .disp (.bit_b_atIYd 4), .hole, .hole, .hole, .hole, .hole, .hole,
    .hole, .disp (.bit_b_atIYd 5), .hole],
  [.hole, .hole, .hole, .hole, .hole, .hole, .disp (.bit_b_atIYd 6), .hole, .hole, .hole, .hole, .hole, .hole,
    .hole, .disp (.bit_b_atIYd 7), .hole],
  [.hole, .hole, .hole, .hole, .hole, .hole, .disp (.res_b_atIYd 0), .hole, .hole, .hole, .hole, .hole, .hole,
    .hole, .disp (.res_b_atIYd 1), .hole],
  [.hole, .hole, .hole, .hole, .hole, .hole, .disp (.res_b_atIYd 2), .hole, .hole, .hole, .hole, .hole, .hole,
    .hole, .disp (.res_b_atIYd 3), .hole],
  [.hole, .hole, .hole, .hole, .hole, .hole, .disp (.res_b_atIYd 4), .hole, .hole, .hole, .hole, .hole, .hole,
    .hole, .disp (.res_b_atIYd 5), .hole],
  [.hole, .hole, .hole, .hole, .hole, .hole, .disp (.res_b_atIYd 6), .hole, .hole, .hole, .hole, .hole, .hole,
    .hole, .disp (.res_b_atIYd 7), .hole],
  [.hole, .hole, .hole, .hole, .hole, .hole, .disp (.set_b_atIYd 0), .hole, .hole, .hole, .hole, .hole, .hole,
    .hole, .disp (.set_b_atIYd 1), .hole],
  [.hole, .hole, .hole, .hole, .hole, .hole, .disp (.set_b_atIYd 2), .hole, .hole, .hole, .hole, .hole, .hole,
    .hole, .disp (.set_b_atIYd 3), .hole],
  [.hole, .hole, .hole, .hole, .hole, .hole, .disp (.set_b_atIYd 4), .hole, .hole, .hole, .hole, .hole, .hole,
    .hole, .disp (.set_b_atIYd 5), .hole],
  [.hole, .hole, .hole, .hole, .hole, .hole, .disp (.set_b_atIYd 6), .hole, .hole, .hole, .hole, .hole, .hole,
    .hole, .disp (.set_b_atIYd 7), .hole]]

/-! ### The decoder -/

/-- Why bytes are not an instruction of the opcode table. -/
inductive DecodeError where
  /-- The bytes end before the instruction does. -/
  | truncated
  /-- `ED op` with no row (rule R118 a). -/
  | unassignedED
  /-- `DD op` or `FD op` with no row (rule R118 b). -/
  | unassignedIndex
  /-- `DD CB d op` or `FD CB d op` with no row (rule R118 c). -/
  | unassignedIndexBit
  /-- A main-page or `CB`-page byte with no row: no byte is one (rules R107, R108: those pages have no hole). -/
  | unassigned
deriving DecidableEq, Repr

/-- An instruction and the bytes after it, or why there is none. -/
abbrev DecodeResult := Except DecodeError (Instr × List Byte)

/-- Finish an instruction from its cell and the bytes after its opcode (rule R93). A hole is rejected with the page's
own error. -/
def Cell.finish (cell : Cell) (error : DecodeError) (rest : List Byte) : DecodeResult :=
  match cell with
  | .hole => .error error
  | .disp _ => .error error
  | .op i => .ok (i, rest)
  | .byte mk =>
    match rest with
    | n :: rest => .ok (mk n, rest)
    | [] => .error .truncated
  | .word mk =>
    match rest with
    | lo :: hi :: rest => .ok (mk (joinBytes hi lo), rest)
    | _ => .error .truncated
  | .twoBytes mk =>
    match rest with
    | d :: n :: rest => .ok (mk d n, rest)
    | _ => .error .truncated

/-- Decode what follows `DD CB` or `FD CB`: the displacement, then the opcode (rule R111). -/
def decodeIndexBit (page : Page) (bytes : List Byte) : DecodeResult :=
  match bytes with
  | d :: op :: rest =>
    match page.cellAt op with
    | .disp mk => .ok (mk d, rest)
    | _ => .error .unassignedIndexBit
  | _ => .error .truncated

/-- Decode what follows `DD` or `FD` (rules R91, R110). -/
def decodeIndex (page bitPage : Page) (bytes : List Byte) : DecodeResult :=
  match bytes with
  | [] => .error .truncated
  | op :: rest =>
    if op = 0xCB then decodeIndexBit bitPage rest
    else (page.cellAt op).finish .unassignedIndex rest

/-- Decode what follows a `CB` or `ED` prefix (rules R108, R109). -/
def decodePaged (page : Page) (error : DecodeError) (bytes : List Byte) : DecodeResult :=
  match bytes with
  | [] => .error .truncated
  | op :: rest => (page.cellAt op).finish error rest

/-- The instruction that a byte string begins with, and the bytes after it (rule R91). -/
def decode (bytes : List Byte) : DecodeResult :=
  match bytes with
  | [] => .error .truncated
  | op :: rest =>
    if op = 0xCB then decodePaged cbPage .unassigned rest
    else if op = 0xED then decodePaged edPage .unassignedED rest
    else if op = 0xDD then decodeIndex ddPage ddcbPage rest
    else if op = 0xFD then decodeIndex fdPage fdcbPage rest
    else (mainPage.cellAt op).finish .unassigned rest

/-- Whether a byte selects another page (rule R91). -/
def isPrefixByte (op : Byte) : Bool := op == 0xCB || op == 0xED || op == 0xDD || op == 0xFD

/-- The length of an instruction from its two leading bytes (rule R92, the table line by line); of an unprefixed
instruction the second byte is not looked at. -/
def lengthFromBytes (b0 b1 : Byte) : Nat :=
  if b0 = 0xCB then 2
  else if b0 = 0xED then
    if b1 &&& 0xC7 == 0x43 then 4 else 2
  else if b0 = 0xDD ∨ b0 = 0xFD then
    if b1 = 0xCB then 4
    else if [0x21, 0x22, 0x2A, 0x36].contains b1 then 4
    else if ([0x26, 0x2E, 0x34, 0x35, 0x46, 0x4E, 0x56, 0x5E, 0x66, 0x6E, 0x70, 0x71, 0x72, 0x73, 0x74, 0x75, 0x77,
        0x7E, 0x86, 0x8E, 0x96, 0x9E, 0xA6, 0xAE, 0xB6, 0xBE] : List Byte).contains b1 then 3
    else 2
  else if ([0x01, 0x11, 0x21, 0x31, 0x22, 0x2A, 0x32, 0x3A, 0xC3, 0xCD] : List Byte).contains b0 ||
      b0 &&& 0xC7 == 0xC2 || b0 &&& 0xC7 == 0xC4 then 3
  else if ([0x06, 0x0E, 0x16, 0x1E, 0x26, 0x2E, 0x36, 0x3E, 0xC6, 0xCE, 0xD6, 0xDE, 0xE6, 0xEE, 0xF6, 0xFE, 0xD3,
      0xDB, 0x10, 0x18, 0x20, 0x28, 0x30, 0x38] : List Byte).contains b0 then 2
  else 1

/-! ### The encoder -/

/-- The opcode byte of `BIT`, `RES` or `SET`: the bit index in `op[5:3]` (rules R94, R102, R108, R111). -/
def bitOpcode (base : Byte) (b : Nat) : Byte := base + BitVec.ofNat 8 (8 * b)

/-- The bytes of an instruction, byte 0 first (rules R91, R93, and the "Encoding" line of its own rule). -/
def encode (i : Instr) : List Byte :=
  match i with
  | .nop => [0x00]
  | .ex_AF_AFshadow => [0x08]
  | .djnz_e e => [0x10, e]
  | .jr_e e => [0x18, e]
  | .jr_NZ_e e => [0x20, e]
  | .jr_Z_e e => [0x28, e]
  | .jr_NC_e e => [0x30, e]
  | .jr_C_e e => [0x38, e]
  | .ld_BC_nn nn => [0x01, loByte nn, hiByte nn]
  | .add_HL_BC => [0x09]
  | .inc_BC => [0x03]
  | .dec_BC => [0x0B]
  | .ld_DE_nn nn => [0x11, loByte nn, hiByte nn]
  | .add_HL_DE => [0x19]
  | .inc_DE => [0x13]
  | .dec_DE => [0x1B]
  | .ld_HL_nn nn => [0x21, loByte nn, hiByte nn]
  | .add_HL_HL => [0x29]
  | .inc_HL => [0x23]
  | .dec_HL => [0x2B]
  | .ld_SP_nn nn => [0x31, loByte nn, hiByte nn]
  | .add_HL_SP => [0x39]
  | .inc_SP => [0x33]
  | .dec_SP => [0x3B]
  | .ld_atBC_A => [0x02]
  | .ld_atDE_A => [0x12]
  | .ld_atNn_HL nn => [0x22, loByte nn, hiByte nn]
  | .ld_atNn_A nn => [0x32, loByte nn, hiByte nn]
  | .ld_A_atBC => [0x0A]
  | .ld_A_atDE => [0x1A]
  | .ld_HL_atNn nn => [0x2A, loByte nn, hiByte nn]
  | .ld_A_atNn nn => [0x3A, loByte nn, hiByte nn]
  | .inc_B => [0x04]
  | .dec_B => [0x05]
  | .ld_B_n n => [0x06, n]
  | .inc_C => [0x0C]
  | .dec_C => [0x0D]
  | .ld_C_n n => [0x0E, n]
  | .inc_D => [0x14]
  | .dec_D => [0x15]
  | .ld_D_n n => [0x16, n]
  | .inc_E => [0x1C]
  | .dec_E => [0x1D]
  | .ld_E_n n => [0x1E, n]
  | .inc_H => [0x24]
  | .dec_H => [0x25]
  | .ld_H_n n => [0x26, n]
  | .inc_L => [0x2C]
  | .dec_L => [0x2D]
  | .ld_L_n n => [0x2E, n]
  | .inc_atHL => [0x34]
  | .dec_atHL => [0x35]
  | .ld_atHL_n n => [0x36, n]
  | .inc_A => [0x3C]
  | .dec_A => [0x3D]
  | .ld_A_n n => [0x3E, n]
  | .rlca => [0x07]
  | .rrca => [0x0F]
  | .rla => [0x17]
  | .rra => [0x1F]
  | .daa => [0x27]
  | .cpl => [0x2F]
  | .scf => [0x37]
  | .ccf => [0x3F]
  | .ld_B_B => [0x40]
  | .ld_B_C => [0x41]
  | .ld_B_D => [0x42]
  | .ld_B_E => [0x43]
  | .ld_B_H => [0x44]
  | .ld_B_L => [0x45]
  | .ld_B_atHL => [0x46]
  | .ld_B_A => [0x47]
  | .ld_C_B => [0x48]
  | .ld_C_C => [0x49]
  | .ld_C_D => [0x4A]
  | .ld_C_E => [0x4B]
  | .ld_C_H => [0x4C]
  | .ld_C_L => [0x4D]
  | .ld_C_atHL => [0x4E]
  | .ld_C_A => [0x4F]
  | .ld_D_B => [0x50]
  | .ld_D_C => [0x51]
  | .ld_D_D => [0x52]
  | .ld_D_E => [0x53]
  | .ld_D_H => [0x54]
  | .ld_D_L => [0x55]
  | .ld_D_atHL => [0x56]
  | .ld_D_A => [0x57]
  | .ld_E_B => [0x58]
  | .ld_E_C => [0x59]
  | .ld_E_D => [0x5A]
  | .ld_E_E => [0x5B]
  | .ld_E_H => [0x5C]
  | .ld_E_L => [0x5D]
  | .ld_E_atHL => [0x5E]
  | .ld_E_A => [0x5F]
  | .ld_H_B => [0x60]
  | .ld_H_C => [0x61]
  | .ld_H_D => [0x62]
  | .ld_H_E => [0x63]
  | .ld_H_H => [0x64]
  | .ld_H_L => [0x65]
  | .ld_H_atHL => [0x66]
  | .ld_H_A => [0x67]
  | .ld_L_B => [0x68]
  | .ld_L_C => [0x69]
  | .ld_L_D => [0x6A]
  | .ld_L_E => [0x6B]
  | .ld_L_H => [0x6C]
  | .ld_L_L => [0x6D]
  | .ld_L_atHL => [0x6E]
  | .ld_L_A => [0x6F]
  | .ld_atHL_B => [0x70]
  | .ld_atHL_C => [0x71]
  | .ld_atHL_D => [0x72]
  | .ld_atHL_E => [0x73]
  | .ld_atHL_H => [0x74]
  | .ld_atHL_L => [0x75]
  | .halt => [0x76]
  | .ld_atHL_A => [0x77]
  | .ld_A_B => [0x78]
  | .ld_A_C => [0x79]
  | .ld_A_D => [0x7A]
  | .ld_A_E => [0x7B]
  | .ld_A_H => [0x7C]
  | .ld_A_L => [0x7D]
  | .ld_A_atHL => [0x7E]
  | .ld_A_A => [0x7F]
  | .add_A_B => [0x80]
  | .add_A_C => [0x81]
  | .add_A_D => [0x82]
  | .add_A_E => [0x83]
  | .add_A_H => [0x84]
  | .add_A_L => [0x85]
  | .add_A_atHL => [0x86]
  | .add_A_A => [0x87]
  | .add_A_n n => [0xC6, n]
  | .adc_A_B => [0x88]
  | .adc_A_C => [0x89]
  | .adc_A_D => [0x8A]
  | .adc_A_E => [0x8B]
  | .adc_A_H => [0x8C]
  | .adc_A_L => [0x8D]
  | .adc_A_atHL => [0x8E]
  | .adc_A_A => [0x8F]
  | .adc_A_n n => [0xCE, n]
  | .sub_B => [0x90]
  | .sub_C => [0x91]
  | .sub_D => [0x92]
  | .sub_E => [0x93]
  | .sub_H => [0x94]
  | .sub_L => [0x95]
  | .sub_atHL => [0x96]
  | .sub_A => [0x97]
  | .sub_n n => [0xD6, n]
  | .sbc_A_B => [0x98]
  | .sbc_A_C => [0x99]
  | .sbc_A_D => [0x9A]
  | .sbc_A_E => [0x9B]
  | .sbc_A_H => [0x9C]
  | .sbc_A_L => [0x9D]
  | .sbc_A_atHL => [0x9E]
  | .sbc_A_A => [0x9F]
  | .sbc_A_n n => [0xDE, n]
  | .and_B => [0xA0]
  | .and_C => [0xA1]
  | .and_D => [0xA2]
  | .and_E => [0xA3]
  | .and_H => [0xA4]
  | .and_L => [0xA5]
  | .and_atHL => [0xA6]
  | .and_A => [0xA7]
  | .and_n n => [0xE6, n]
  | .xor_B => [0xA8]
  | .xor_C => [0xA9]
  | .xor_D => [0xAA]
  | .xor_E => [0xAB]
  | .xor_H => [0xAC]
  | .xor_L => [0xAD]
  | .xor_atHL => [0xAE]
  | .xor_A => [0xAF]
  | .xor_n n => [0xEE, n]
  | .or_B => [0xB0]
  | .or_C => [0xB1]
  | .or_D => [0xB2]
  | .or_E => [0xB3]
  | .or_H => [0xB4]
  | .or_L => [0xB5]
  | .or_atHL => [0xB6]
  | .or_A => [0xB7]
  | .or_n n => [0xF6, n]
  | .cp_B => [0xB8]
  | .cp_C => [0xB9]
  | .cp_D => [0xBA]
  | .cp_E => [0xBB]
  | .cp_H => [0xBC]
  | .cp_L => [0xBD]
  | .cp_atHL => [0xBE]
  | .cp_A => [0xBF]
  | .cp_n n => [0xFE, n]
  | .ret_NZ => [0xC0]
  | .jp_NZ_nn nn => [0xC2, loByte nn, hiByte nn]
  | .call_NZ_nn nn => [0xC4, loByte nn, hiByte nn]
  | .rst_00 => [0xC7]
  | .ret_Z => [0xC8]
  | .jp_Z_nn nn => [0xCA, loByte nn, hiByte nn]
  | .call_Z_nn nn => [0xCC, loByte nn, hiByte nn]
  | .rst_08 => [0xCF]
  | .ret_NC => [0xD0]
  | .jp_NC_nn nn => [0xD2, loByte nn, hiByte nn]
  | .call_NC_nn nn => [0xD4, loByte nn, hiByte nn]
  | .rst_10 => [0xD7]
  | .ret_C => [0xD8]
  | .jp_C_nn nn => [0xDA, loByte nn, hiByte nn]
  | .call_C_nn nn => [0xDC, loByte nn, hiByte nn]
  | .rst_18 => [0xDF]
  | .ret_PO => [0xE0]
  | .jp_PO_nn nn => [0xE2, loByte nn, hiByte nn]
  | .call_PO_nn nn => [0xE4, loByte nn, hiByte nn]
  | .rst_20 => [0xE7]
  | .ret_PE => [0xE8]
  | .jp_PE_nn nn => [0xEA, loByte nn, hiByte nn]
  | .call_PE_nn nn => [0xEC, loByte nn, hiByte nn]
  | .rst_28 => [0xEF]
  | .ret_P => [0xF0]
  | .jp_P_nn nn => [0xF2, loByte nn, hiByte nn]
  | .call_P_nn nn => [0xF4, loByte nn, hiByte nn]
  | .rst_30 => [0xF7]
  | .ret_M => [0xF8]
  | .jp_M_nn nn => [0xFA, loByte nn, hiByte nn]
  | .call_M_nn nn => [0xFC, loByte nn, hiByte nn]
  | .rst_38 => [0xFF]
  | .pop_BC => [0xC1]
  | .push_BC => [0xC5]
  | .pop_DE => [0xD1]
  | .push_DE => [0xD5]
  | .pop_HL => [0xE1]
  | .push_HL => [0xE5]
  | .pop_AF => [0xF1]
  | .push_AF => [0xF5]
  | .ret => [0xC9]
  | .exx => [0xD9]
  | .jp_HL => [0xE9]
  | .ld_SP_HL => [0xF9]
  | .jp_nn nn => [0xC3, loByte nn, hiByte nn]
  | .out_atN_A n => [0xD3, n]
  | .in_A_atN n => [0xDB, n]
  | .ex_atSP_HL => [0xE3]
  | .ex_DE_HL => [0xEB]
  | .di => [0xF3]
  | .ei => [0xFB]
  | .call_nn nn => [0xCD, loByte nn, hiByte nn]
  | .rlc_B => [0xCB, 0x00]
  | .rlc_C => [0xCB, 0x01]
  | .rlc_D => [0xCB, 0x02]
  | .rlc_E => [0xCB, 0x03]
  | .rlc_H => [0xCB, 0x04]
  | .rlc_L => [0xCB, 0x05]
  | .rlc_atHL => [0xCB, 0x06]
  | .rlc_A => [0xCB, 0x07]
  | .rrc_B => [0xCB, 0x08]
  | .rrc_C => [0xCB, 0x09]
  | .rrc_D => [0xCB, 0x0A]
  | .rrc_E => [0xCB, 0x0B]
  | .rrc_H => [0xCB, 0x0C]
  | .rrc_L => [0xCB, 0x0D]
  | .rrc_atHL => [0xCB, 0x0E]
  | .rrc_A => [0xCB, 0x0F]
  | .rl_B => [0xCB, 0x10]
  | .rl_C => [0xCB, 0x11]
  | .rl_D => [0xCB, 0x12]
  | .rl_E => [0xCB, 0x13]
  | .rl_H => [0xCB, 0x14]
  | .rl_L => [0xCB, 0x15]
  | .rl_atHL => [0xCB, 0x16]
  | .rl_A => [0xCB, 0x17]
  | .rr_B => [0xCB, 0x18]
  | .rr_C => [0xCB, 0x19]
  | .rr_D => [0xCB, 0x1A]
  | .rr_E => [0xCB, 0x1B]
  | .rr_H => [0xCB, 0x1C]
  | .rr_L => [0xCB, 0x1D]
  | .rr_atHL => [0xCB, 0x1E]
  | .rr_A => [0xCB, 0x1F]
  | .sla_B => [0xCB, 0x20]
  | .sla_C => [0xCB, 0x21]
  | .sla_D => [0xCB, 0x22]
  | .sla_E => [0xCB, 0x23]
  | .sla_H => [0xCB, 0x24]
  | .sla_L => [0xCB, 0x25]
  | .sla_atHL => [0xCB, 0x26]
  | .sla_A => [0xCB, 0x27]
  | .sra_B => [0xCB, 0x28]
  | .sra_C => [0xCB, 0x29]
  | .sra_D => [0xCB, 0x2A]
  | .sra_E => [0xCB, 0x2B]
  | .sra_H => [0xCB, 0x2C]
  | .sra_L => [0xCB, 0x2D]
  | .sra_atHL => [0xCB, 0x2E]
  | .sra_A => [0xCB, 0x2F]
  | .sll_B => [0xCB, 0x30]
  | .sll_C => [0xCB, 0x31]
  | .sll_D => [0xCB, 0x32]
  | .sll_E => [0xCB, 0x33]
  | .sll_H => [0xCB, 0x34]
  | .sll_L => [0xCB, 0x35]
  | .sll_atHL => [0xCB, 0x36]
  | .sll_A => [0xCB, 0x37]
  | .srl_B => [0xCB, 0x38]
  | .srl_C => [0xCB, 0x39]
  | .srl_D => [0xCB, 0x3A]
  | .srl_E => [0xCB, 0x3B]
  | .srl_H => [0xCB, 0x3C]
  | .srl_L => [0xCB, 0x3D]
  | .srl_atHL => [0xCB, 0x3E]
  | .srl_A => [0xCB, 0x3F]
  | .bit_b_B b => [0xCB, bitOpcode 0x40 b]
  | .bit_b_C b => [0xCB, bitOpcode 0x41 b]
  | .bit_b_D b => [0xCB, bitOpcode 0x42 b]
  | .bit_b_E b => [0xCB, bitOpcode 0x43 b]
  | .bit_b_H b => [0xCB, bitOpcode 0x44 b]
  | .bit_b_L b => [0xCB, bitOpcode 0x45 b]
  | .bit_b_atHL b => [0xCB, bitOpcode 0x46 b]
  | .bit_b_A b => [0xCB, bitOpcode 0x47 b]
  | .res_b_B b => [0xCB, bitOpcode 0x80 b]
  | .res_b_C b => [0xCB, bitOpcode 0x81 b]
  | .res_b_D b => [0xCB, bitOpcode 0x82 b]
  | .res_b_E b => [0xCB, bitOpcode 0x83 b]
  | .res_b_H b => [0xCB, bitOpcode 0x84 b]
  | .res_b_L b => [0xCB, bitOpcode 0x85 b]
  | .res_b_atHL b => [0xCB, bitOpcode 0x86 b]
  | .res_b_A b => [0xCB, bitOpcode 0x87 b]
  | .set_b_B b => [0xCB, bitOpcode 0xC0 b]
  | .set_b_C b => [0xCB, bitOpcode 0xC1 b]
  | .set_b_D b => [0xCB, bitOpcode 0xC2 b]
  | .set_b_E b => [0xCB, bitOpcode 0xC3 b]
  | .set_b_H b => [0xCB, bitOpcode 0xC4 b]
  | .set_b_L b => [0xCB, bitOpcode 0xC5 b]
  | .set_b_atHL b => [0xCB, bitOpcode 0xC6 b]
  | .set_b_A b => [0xCB, bitOpcode 0xC7 b]
  | .in_B_atC => [0xED, 0x40]
  | .out_atC_B => [0xED, 0x41]
  | .in_C_atC => [0xED, 0x48]
  | .out_atC_C => [0xED, 0x49]
  | .in_D_atC => [0xED, 0x50]
  | .out_atC_D => [0xED, 0x51]
  | .in_E_atC => [0xED, 0x58]
  | .out_atC_E => [0xED, 0x59]
  | .in_H_atC => [0xED, 0x60]
  | .out_atC_H => [0xED, 0x61]
  | .in_L_atC => [0xED, 0x68]
  | .out_atC_L => [0xED, 0x69]
  | .in_atC => [0xED, 0x70]
  | .out_atC_0 => [0xED, 0x71]
  | .in_A_atC => [0xED, 0x78]
  | .out_atC_A => [0xED, 0x79]
  | .sbc_HL_BC => [0xED, 0x42]
  | .adc_HL_BC => [0xED, 0x4A]
  | .ld_atNn_BC nn => [0xED, 0x43, loByte nn, hiByte nn]
  | .ld_BC_atNn nn => [0xED, 0x4B, loByte nn, hiByte nn]
  | .sbc_HL_DE => [0xED, 0x52]
  | .adc_HL_DE => [0xED, 0x5A]
  | .ld_atNn_DE nn => [0xED, 0x53, loByte nn, hiByte nn]
  | .ld_DE_atNn nn => [0xED, 0x5B, loByte nn, hiByte nn]
  | .sbc_HL_HL => [0xED, 0x62]
  | .adc_HL_HL => [0xED, 0x6A]
  | .ld_atNn_HL_ed nn => [0xED, 0x63, loByte nn, hiByte nn]
  | .ld_HL_atNn_ed nn => [0xED, 0x6B, loByte nn, hiByte nn]
  | .sbc_HL_SP => [0xED, 0x72]
  | .adc_HL_SP => [0xED, 0x7A]
  | .ld_atNn_SP nn => [0xED, 0x73, loByte nn, hiByte nn]
  | .ld_SP_atNn nn => [0xED, 0x7B, loByte nn, hiByte nn]
  | .neg => [0xED, 0x44]
  | .retn => [0xED, 0x45]
  | .reti => [0xED, 0x4D]
  | .im_0 => [0xED, 0x46]
  | .im_1 => [0xED, 0x56]
  | .im_2 => [0xED, 0x5E]
  | .ld_I_A => [0xED, 0x47]
  | .ld_R_A => [0xED, 0x4F]
  | .ld_A_I => [0xED, 0x57]
  | .ld_A_R => [0xED, 0x5F]
  | .rrd => [0xED, 0x67]
  | .rld => [0xED, 0x6F]
  | .ldi => [0xED, 0xA0]
  | .cpi => [0xED, 0xA1]
  | .ini => [0xED, 0xA2]
  | .outi => [0xED, 0xA3]
  | .ldd => [0xED, 0xA8]
  | .cpd => [0xED, 0xA9]
  | .ind => [0xED, 0xAA]
  | .outd => [0xED, 0xAB]
  | .ldir => [0xED, 0xB0]
  | .cpir => [0xED, 0xB1]
  | .inir => [0xED, 0xB2]
  | .otir => [0xED, 0xB3]
  | .lddr => [0xED, 0xB8]
  | .cpdr => [0xED, 0xB9]
  | .indr => [0xED, 0xBA]
  | .otdr => [0xED, 0xBB]
  | .add_IX_BC => [0xDD, 0x09]
  | .add_IX_DE => [0xDD, 0x19]
  | .add_IX_IX => [0xDD, 0x29]
  | .add_IX_SP => [0xDD, 0x39]
  | .ld_IX_nn nn => [0xDD, 0x21, loByte nn, hiByte nn]
  | .ld_atNn_IX nn => [0xDD, 0x22, loByte nn, hiByte nn]
  | .ld_IX_atNn nn => [0xDD, 0x2A, loByte nn, hiByte nn]
  | .inc_IX => [0xDD, 0x23]
  | .dec_IX => [0xDD, 0x2B]
  | .inc_IXH => [0xDD, 0x24]
  | .dec_IXH => [0xDD, 0x25]
  | .ld_IXH_n n => [0xDD, 0x26, n]
  | .inc_IXL => [0xDD, 0x2C]
  | .dec_IXL => [0xDD, 0x2D]
  | .ld_IXL_n n => [0xDD, 0x2E, n]
  | .inc_atIXd d => [0xDD, 0x34, d]
  | .dec_atIXd d => [0xDD, 0x35, d]
  | .ld_atIXd_n d n => [0xDD, 0x36, d, n]
  | .ld_B_IXH => [0xDD, 0x44]
  | .ld_B_IXL => [0xDD, 0x45]
  | .ld_B_atIXd d => [0xDD, 0x46, d]
  | .ld_C_IXH => [0xDD, 0x4C]
  | .ld_C_IXL => [0xDD, 0x4D]
  | .ld_C_atIXd d => [0xDD, 0x4E, d]
  | .ld_D_IXH => [0xDD, 0x54]
  | .ld_D_IXL => [0xDD, 0x55]
  | .ld_D_atIXd d => [0xDD, 0x56, d]
  | .ld_E_IXH => [0xDD, 0x5C]
  | .ld_E_IXL => [0xDD, 0x5D]
  | .ld_E_atIXd d => [0xDD, 0x5E, d]
  | .ld_IXH_B => [0xDD, 0x60]
  | .ld_IXH_C => [0xDD, 0x61]
  | .ld_IXH_D => [0xDD, 0x62]
  | .ld_IXH_E => [0xDD, 0x63]
  | .ld_IXH_IXH => [0xDD, 0x64]
  | .ld_IXH_IXL => [0xDD, 0x65]
  | .ld_H_atIXd d => [0xDD, 0x66, d]
  | .ld_IXH_A => [0xDD, 0x67]
  | .ld_IXL_B => [0xDD, 0x68]
  | .ld_IXL_C => [0xDD, 0x69]
  | .ld_IXL_D => [0xDD, 0x6A]
  | .ld_IXL_E => [0xDD, 0x6B]
  | .ld_IXL_IXH => [0xDD, 0x6C]
  | .ld_IXL_IXL => [0xDD, 0x6D]
  | .ld_L_atIXd d => [0xDD, 0x6E, d]
  | .ld_IXL_A => [0xDD, 0x6F]
  | .ld_atIXd_B d => [0xDD, 0x70, d]
  | .ld_atIXd_C d => [0xDD, 0x71, d]
  | .ld_atIXd_D d => [0xDD, 0x72, d]
  | .ld_atIXd_E d => [0xDD, 0x73, d]
  | .ld_atIXd_H d => [0xDD, 0x74, d]
  | .ld_atIXd_L d => [0xDD, 0x75, d]
  | .ld_atIXd_A d => [0xDD, 0x77, d]
  | .ld_A_IXH => [0xDD, 0x7C]
  | .ld_A_IXL => [0xDD, 0x7D]
  | .ld_A_atIXd d => [0xDD, 0x7E, d]
  | .add_A_IXH => [0xDD, 0x84]
  | .add_A_IXL => [0xDD, 0x85]
  | .add_A_atIXd d => [0xDD, 0x86, d]
  | .adc_A_IXH => [0xDD, 0x8C]
  | .adc_A_IXL => [0xDD, 0x8D]
  | .adc_A_atIXd d => [0xDD, 0x8E, d]
  | .sub_IXH => [0xDD, 0x94]
  | .sub_IXL => [0xDD, 0x95]
  | .sub_atIXd d => [0xDD, 0x96, d]
  | .sbc_A_IXH => [0xDD, 0x9C]
  | .sbc_A_IXL => [0xDD, 0x9D]
  | .sbc_A_atIXd d => [0xDD, 0x9E, d]
  | .and_IXH => [0xDD, 0xA4]
  | .and_IXL => [0xDD, 0xA5]
  | .and_atIXd d => [0xDD, 0xA6, d]
  | .xor_IXH => [0xDD, 0xAC]
  | .xor_IXL => [0xDD, 0xAD]
  | .xor_atIXd d => [0xDD, 0xAE, d]
  | .or_IXH => [0xDD, 0xB4]
  | .or_IXL => [0xDD, 0xB5]
  | .or_atIXd d => [0xDD, 0xB6, d]
  | .cp_IXH => [0xDD, 0xBC]
  | .cp_IXL => [0xDD, 0xBD]
  | .cp_atIXd d => [0xDD, 0xBE, d]
  | .pop_IX => [0xDD, 0xE1]
  | .push_IX => [0xDD, 0xE5]
  | .ex_atSP_IX => [0xDD, 0xE3]
  | .jp_IX => [0xDD, 0xE9]
  | .ld_SP_IX => [0xDD, 0xF9]
  | .rlc_atIXd d => [0xDD, 0xCB, d, 0x06]
  | .rrc_atIXd d => [0xDD, 0xCB, d, 0x0E]
  | .rl_atIXd d => [0xDD, 0xCB, d, 0x16]
  | .rr_atIXd d => [0xDD, 0xCB, d, 0x1E]
  | .sla_atIXd d => [0xDD, 0xCB, d, 0x26]
  | .sra_atIXd d => [0xDD, 0xCB, d, 0x2E]
  | .sll_atIXd d => [0xDD, 0xCB, d, 0x36]
  | .srl_atIXd d => [0xDD, 0xCB, d, 0x3E]
  | .bit_b_atIXd b d => [0xDD, 0xCB, d, bitOpcode 0x46 b]
  | .res_b_atIXd b d => [0xDD, 0xCB, d, bitOpcode 0x86 b]
  | .set_b_atIXd b d => [0xDD, 0xCB, d, bitOpcode 0xC6 b]
  | .add_IY_BC => [0xFD, 0x09]
  | .add_IY_DE => [0xFD, 0x19]
  | .add_IY_IY => [0xFD, 0x29]
  | .add_IY_SP => [0xFD, 0x39]
  | .ld_IY_nn nn => [0xFD, 0x21, loByte nn, hiByte nn]
  | .ld_atNn_IY nn => [0xFD, 0x22, loByte nn, hiByte nn]
  | .ld_IY_atNn nn => [0xFD, 0x2A, loByte nn, hiByte nn]
  | .inc_IY => [0xFD, 0x23]
  | .dec_IY => [0xFD, 0x2B]
  | .inc_IYH => [0xFD, 0x24]
  | .dec_IYH => [0xFD, 0x25]
  | .ld_IYH_n n => [0xFD, 0x26, n]
  | .inc_IYL => [0xFD, 0x2C]
  | .dec_IYL => [0xFD, 0x2D]
  | .ld_IYL_n n => [0xFD, 0x2E, n]
  | .inc_atIYd d => [0xFD, 0x34, d]
  | .dec_atIYd d => [0xFD, 0x35, d]
  | .ld_atIYd_n d n => [0xFD, 0x36, d, n]
  | .ld_B_IYH => [0xFD, 0x44]
  | .ld_B_IYL => [0xFD, 0x45]
  | .ld_B_atIYd d => [0xFD, 0x46, d]
  | .ld_C_IYH => [0xFD, 0x4C]
  | .ld_C_IYL => [0xFD, 0x4D]
  | .ld_C_atIYd d => [0xFD, 0x4E, d]
  | .ld_D_IYH => [0xFD, 0x54]
  | .ld_D_IYL => [0xFD, 0x55]
  | .ld_D_atIYd d => [0xFD, 0x56, d]
  | .ld_E_IYH => [0xFD, 0x5C]
  | .ld_E_IYL => [0xFD, 0x5D]
  | .ld_E_atIYd d => [0xFD, 0x5E, d]
  | .ld_IYH_B => [0xFD, 0x60]
  | .ld_IYH_C => [0xFD, 0x61]
  | .ld_IYH_D => [0xFD, 0x62]
  | .ld_IYH_E => [0xFD, 0x63]
  | .ld_IYH_IYH => [0xFD, 0x64]
  | .ld_IYH_IYL => [0xFD, 0x65]
  | .ld_H_atIYd d => [0xFD, 0x66, d]
  | .ld_IYH_A => [0xFD, 0x67]
  | .ld_IYL_B => [0xFD, 0x68]
  | .ld_IYL_C => [0xFD, 0x69]
  | .ld_IYL_D => [0xFD, 0x6A]
  | .ld_IYL_E => [0xFD, 0x6B]
  | .ld_IYL_IYH => [0xFD, 0x6C]
  | .ld_IYL_IYL => [0xFD, 0x6D]
  | .ld_L_atIYd d => [0xFD, 0x6E, d]
  | .ld_IYL_A => [0xFD, 0x6F]
  | .ld_atIYd_B d => [0xFD, 0x70, d]
  | .ld_atIYd_C d => [0xFD, 0x71, d]
  | .ld_atIYd_D d => [0xFD, 0x72, d]
  | .ld_atIYd_E d => [0xFD, 0x73, d]
  | .ld_atIYd_H d => [0xFD, 0x74, d]
  | .ld_atIYd_L d => [0xFD, 0x75, d]
  | .ld_atIYd_A d => [0xFD, 0x77, d]
  | .ld_A_IYH => [0xFD, 0x7C]
  | .ld_A_IYL => [0xFD, 0x7D]
  | .ld_A_atIYd d => [0xFD, 0x7E, d]
  | .add_A_IYH => [0xFD, 0x84]
  | .add_A_IYL => [0xFD, 0x85]
  | .add_A_atIYd d => [0xFD, 0x86, d]
  | .adc_A_IYH => [0xFD, 0x8C]
  | .adc_A_IYL => [0xFD, 0x8D]
  | .adc_A_atIYd d => [0xFD, 0x8E, d]
  | .sub_IYH => [0xFD, 0x94]
  | .sub_IYL => [0xFD, 0x95]
  | .sub_atIYd d => [0xFD, 0x96, d]
  | .sbc_A_IYH => [0xFD, 0x9C]
  | .sbc_A_IYL => [0xFD, 0x9D]
  | .sbc_A_atIYd d => [0xFD, 0x9E, d]
  | .and_IYH => [0xFD, 0xA4]
  | .and_IYL => [0xFD, 0xA5]
  | .and_atIYd d => [0xFD, 0xA6, d]
  | .xor_IYH => [0xFD, 0xAC]
  | .xor_IYL => [0xFD, 0xAD]
  | .xor_atIYd d => [0xFD, 0xAE, d]
  | .or_IYH => [0xFD, 0xB4]
  | .or_IYL => [0xFD, 0xB5]
  | .or_atIYd d => [0xFD, 0xB6, d]
  | .cp_IYH => [0xFD, 0xBC]
  | .cp_IYL => [0xFD, 0xBD]
  | .cp_atIYd d => [0xFD, 0xBE, d]
  | .pop_IY => [0xFD, 0xE1]
  | .push_IY => [0xFD, 0xE5]
  | .ex_atSP_IY => [0xFD, 0xE3]
  | .jp_IY => [0xFD, 0xE9]
  | .ld_SP_IY => [0xFD, 0xF9]
  | .rlc_atIYd d => [0xFD, 0xCB, d, 0x06]
  | .rrc_atIYd d => [0xFD, 0xCB, d, 0x0E]
  | .rl_atIYd d => [0xFD, 0xCB, d, 0x16]
  | .rr_atIYd d => [0xFD, 0xCB, d, 0x1E]
  | .sla_atIYd d => [0xFD, 0xCB, d, 0x26]
  | .sra_atIYd d => [0xFD, 0xCB, d, 0x2E]
  | .sll_atIYd d => [0xFD, 0xCB, d, 0x36]
  | .srl_atIYd d => [0xFD, 0xCB, d, 0x3E]
  | .bit_b_atIYd b d => [0xFD, 0xCB, d, bitOpcode 0x46 b]
  | .res_b_atIYd b d => [0xFD, 0xCB, d, bitOpcode 0x86 b]
  | .set_b_atIYd b d => [0xFD, 0xCB, d, bitOpcode 0xC6 b]

/-! ### The table's own numbering of bits -/

/-- The first `count` bytes of a number whose bit 0 is the least significant bit of the first byte. -/
def bytesOfNat : (count w : Nat) → List Byte
  | 0, _ => []
  | count + 1, w => BitVec.ofNat 8 w :: bytesOfNat count (w / 256)

/-- The four bytes, the longest instruction's (rule R92), that a table word stands for: its `nbits` bits, zeros above
them. -/
def tableWordBytes (nbits w : Nat) : List Byte := bytesOfNat 4 (w % 2 ^ nbits)

/-- The instruction that the decoder reads from a word of the opcode table; nothing where it refuses. -/
def decodeTableWord (nbits w : Nat) : Option Instr :=
  match decode (tableWordBytes nbits w) with
  | .ok (i, _) => some i
  | .error _ => none

end Sys2Proof
end

