-- ==== Sys2Proof/Machine/State.lean ====
section
/-! DEFINITION. The architectural state of the Z80 (10_state.md rules R20 to R36), what the environment shows the
CPU at its step boundaries (60_exceptions.md rules R401 to R403), the reasons a step can stop, and the state right
after reset (rules R50, R450). Everything here is plain data. -/

namespace Sys2Proof.Machine

/-- The flag register `F`, one field per bit, in the layout of rule R22 (bit 7 first). Rule R46 allows this form;
it keeps a flag the spec defines apart from a bit the spec leaves free. `Flags.toByte` and `Flags.ofByte`
(Machine/Flags.lean) are the 8-bit view that `PUSH AF` and `POP AF` use. -/
@[ext]
structure Flags where
  /-- `F[7]`, sign. -/
  s : Bool
  /-- `F[6]`, zero. -/
  z : Bool
  /-- `F[5]`, an unnamed bit (rule R46). -/
  f5 : Bool
  /-- `F[4]`, half carry. -/
  h : Bool
  /-- `F[3]`, an unnamed bit (rule R46). -/
  f3 : Bool
  /-- `F[2]`, parity/overflow. -/
  pv : Bool
  /-- `F[1]`, add/subtract. -/
  n : Bool
  /-- `F[0]`, carry. -/
  c : Bool
deriving DecidableEq, Repr

/-- The interrupt mode `IM`: three legal values, written by `IM 0`, `IM 1`, `IM 2` and reset only (rule R32). -/
inductive IntMode where
  | mode0
  | mode1
  | mode2
deriving DecidableEq, Repr

/-- What the environment shows the CPU at one step boundary (rules R6, R402, R403): the reset request, an edge on
the `NMI` input since the boundary before, the level of the maskable interrupt line, and the byte the interrupting
device would supply. -/
structure Pins where
  reset : Bool
  nmiEdge : Bool
  intLine : Bool
  intData : Byte
deriving DecidableEq, Repr

/-- A boundary at which nothing is requested. -/
def Pins.quiet : Pins := ⟨false, false, false, 0⟩

/-- Memory: the bytes that differ from what an unlisted address reads as, addresses strictly rising (rule R61;
`Memory.wf` in Machine/Memory.lean says the form holds). -/
abbrev Memory := List Host.Cell

/-- The machine. Each register field carries the rule that names it; the fields from `mem` on are the platform's, the
environment's and the model's (INVENTORY.md, State). -/
@[ext]
structure State where
  /-- `A` (R20, R21). -/
  a : Byte
  /-- `F` (R22). -/
  f : Flags
  /-- `B` (R20, R21). -/
  b : Byte
  /-- `C`. -/
  c : Byte
  /-- `D`. -/
  d : Byte
  /-- `E`. -/
  e : Byte
  /-- `H`. -/
  h : Byte
  /-- `L`. -/
  l : Byte
  /-- The shadow register `A'` (R24). -/
  aShadow : Byte
  /-- `F'` (R24). -/
  fShadow : Flags
  /-- `B'` (R24). -/
  bShadow : Byte
  /-- `C'`. -/
  cShadow : Byte
  /-- `D'`. -/
  dShadow : Byte
  /-- `E'`. -/
  eShadow : Byte
  /-- `H'`. -/
  hShadow : Byte
  /-- `L'`. -/
  lShadow : Byte
  /-- `IX` (R25). -/
  ix : Word
  /-- `IY` (R25). -/
  iy : Word
  /-- `SP` (R26). -/
  sp : Word
  /-- `PC` (R27): between steps, the address of the next instruction's first byte. -/
  pc : Word
  /-- `I`, the interrupt page register (R30). -/
  i : Byte
  /-- `R`, the refresh counter (R31). -/
  r : Byte
  /-- `IM` (R32). -/
  im : IntMode
  /-- `IFF1`, the live interrupt enable (R33). -/
  iff1 : Bool
  /-- `IFF2`, the saved interrupt enable (R33). -/
  iff2 : Bool
  /-- The CPU has executed `HALT` and idles (R35, R440). -/
  halted : Bool
  /-- The instruction just executed was `EI` (R35, R411). -/
  eiShadow : Bool
  /-- An `NMI` edge was seen and not yet served (R35, R408). -/
  nmiPending : Bool
  /-- The bytes of the memory space (R61). -/
  mem : Memory
  /-- `PLATFORM.mem`: what backs which addresses; an address in no region is RAM (R61, D3). No step changes it. -/
  memMap : List Region
  /-- The environment's requests at the coming step boundaries, the next one first; nothing is requested once the
  list is used up (R402, R403; log entry 6). -/
  pins : List Pins
  /-- What has crossed between CPU and platform, the newest first (R64, R70; log entry 4). -/
  history : List BusEvent
  /-- How many times the flags have been written: the index of the next free bits of `F` (R45, R46; log entry 3). -/
  draws : Nat
  /-- The T-states that have passed: the cycle counter of rule R470 (decision D25). Nothing depends on it. -/
  tStates : Nat
deriving DecidableEq, Repr

/-- Why a step faults: never. The machine has no synchronous exception and no address that cannot be accessed
(60_exceptions.md rule R400, 20_memory.md rule R62), so the type has no constructor. -/
inductive Fault where
deriving DecidableEq, Repr

/-- Why the model gives a step no meaning. -/
inductive Refusal where
  /-- Raised by `exec` for an instruction that has no meaning yet (no arm of this model does). Safe: nothing can be
  proved of the run. -/
  | notModelled (mnemonic : String)
  /-- Raised by the step when the bytes at `pc` match no row of the opcode table (rule R118: the model must
  refuse, and must neither trap nor treat them as a no-operation). Safe: nothing can be proved of the run. -/
  | unassignedEncoding (error : DecodeError) (pc : Word) (bytes : List Byte)
  /-- Raised by the acceptance of a mode-0 interrupt whose supplied byte is not one of the eight `RST` opcodes
  (rule R407, decision D34). Safe: nothing can be proved of the run. -/
  | modeZeroInstruction (supplied : Byte)
deriving DecidableEq, Repr

/-- The flags with all eight bits 1. -/
def Flags.allSet : Flags := ⟨true, true, true, true, true, true, true, true⟩

/-- The flags with all eight bits 0. -/
def Flags.allClear : Flags := ⟨false, false, false, false, false, false, false, false⟩

/-- The machine right after reset (rules R50, R450): `PC`, `I`, `R`, `IFF1`, `IFF2`, `IM` and the latches at the
values the spec states. The registers the spec leaves unspecified hold the values of log entry 1 (`A`, `F` and `SP`
all ones, as rule R50 reports; every other register zero); memory lists nothing (log entry 2) and is all RAM. -/
def State.reset : State where
  a := 0xFF
  f := Flags.allSet
  b := 0
  c := 0
  d := 0
  e := 0
  h := 0
  l := 0
  aShadow := 0
  fShadow := Flags.allClear
  bShadow := 0
  cShadow := 0
  dShadow := 0
  eShadow := 0
  hShadow := 0
  lShadow := 0
  ix := 0
  iy := 0
  sp := 0xFFFF
  pc := Config.resetPc
  i := 0
  r := 0
  im := .mode0
  iff1 := false
  iff2 := false
  halted := false
  eiShadow := false
  nmiPending := false
  mem := []
  memMap := []
  pins := []
  history := []
  draws := 0
  tStates := 0

end Sys2Proof.Machine
end

