-- ==== Sys2Proof/Machine/Flags.lean ====
section
/-! DEFINITION. The flag computations of 10_state.md section 7: the 8-bit view of `F` (rule R22), the helpers
`add8`, `sub8`, `inc8`, `dec8`, `add16`, `adc16`, `sbc16`, `szp` (rules R41 to R44, R47) and the conditions (rule
R48). A helper answers its result and a `FlagUpdate`; a bit the spec leaves open takes the free bit. -/

namespace Sys2Proof.Machine

/-- `F` as a byte, in the layout of rule R22. -/
def Flags.toByte (f : Flags) : Byte :=
  BitVec.ofBool f.s ++ BitVec.ofBool f.z ++ BitVec.ofBool f.f5 ++ BitVec.ofBool f.h ++
    BitVec.ofBool f.f3 ++ BitVec.ofBool f.pv ++ BitVec.ofBool f.n ++ BitVec.ofBool f.c

/-- The flags that a byte holds, in the layout of rule R22. -/
def Flags.ofByte (v : Byte) : Flags where
  s := v.getLsbD 7
  z := v.getLsbD 6
  f5 := v.getLsbD 5
  h := v.getLsbD 4
  f3 := v.getLsbD 3
  pv := v.getLsbD 2
  n := v.getLsbD 1
  c := v.getLsbD 0

/-- How an instruction writes the flags: from the old flags and the free bits drawn for this write to the new
flags. `State.writeFlags` (Machine/Ops.lean) itself writes the free bits into `F[5]` and `F[3]` (rule R46). -/
abbrev FlagUpdate := (old free : Flags) → Flags

/-- `parity_even(v)` of rule R8: true when `v` has an even number of 1 bits. -/
def parityEven (v : Byte) : Bool :=
  !(v.getLsbD 0 ^^ v.getLsbD 1 ^^ v.getLsbD 2 ^^ v.getLsbD 3 ^^
    v.getLsbD 4 ^^ v.getLsbD 5 ^^ v.getLsbD 6 ^^ v.getLsbD 7)

/-- The low four bits `v[3:0]`, as a number. -/
def lowNibble (v : Byte) : Nat := v.toNat % 16

/-- The result of `add8(a, b, cin)` (rule R41). -/
def add8 (a b : Byte) (cin : Bool) : Byte := BitVec.ofNat 8 (a.toNat + b.toNat + cin.toNat)

/-- The flags of `add8(a, b, cin)` (rule R41). -/
def add8Flags (a b : Byte) (cin : Bool) : FlagUpdate := fun old _ =>
  let res := add8 a b cin
  { old with
    s := res.msb
    z := res == 0
    h := decide (lowNibble a + lowNibble b + cin.toNat > 15)
    pv := a.msb == b.msb && res.msb != a.msb
    n := false
    c := decide (a.toNat + b.toNat + cin.toNat > 255) }

/-- The result of `sub8(a, b, cin)` (rule R42). -/
def sub8 (a b : Byte) (cin : Bool) : Byte :=
  BitVec.ofInt 8 ((a.toNat : Int) - b.toNat - cin.toNat)

/-- The flags of `sub8(a, b, cin)` (rule R42). -/
def sub8Flags (a b : Byte) (cin : Bool) : FlagUpdate := fun old _ =>
  let res := sub8 a b cin
  { old with
    s := res.msb
    z := res == 0
    h := decide (lowNibble a < lowNibble b + cin.toNat)
    pv := a.msb != b.msb && res.msb != a.msb
    n := true
    c := decide (a.toNat < b.toNat + cin.toNat) }

/-- The flags of `inc8(v)`; `C` is not written (rule R43). -/
def inc8Flags (v : Byte) : FlagUpdate := fun old _ =>
  { old with
    s := (v + 1).msb
    z := v + 1 == 0
    h := lowNibble v == 15
    pv := v == 0x7F
    n := false }

/-- The flags of `dec8(v)`; `C` is not written (rule R43). -/
def dec8Flags (v : Byte) : FlagUpdate := fun old _ =>
  { old with
    s := (v - 1).msb
    z := v - 1 == 0
    h := lowNibble v == 0
    pv := v == 0x80
    n := true }

/-- The flags of `add16(a, b)` (rule R44): `H` is free, `S`, `Z` and `P/V` stay. -/
def add16Flags (a b : Word) : FlagUpdate := fun old free =>
  { old with
    h := free.h
    n := false
    c := decide (a.toNat + b.toNat > 65535) }

/-- The result of `adc16(a, b, cin)` (rule R44). -/
def adc16 (a b : Word) (cin : Bool) : Word := BitVec.ofNat 16 (a.toNat + b.toNat + cin.toNat)

/-- The flags of `adc16(a, b, cin)` (rule R44): `H` is free. -/
def adc16Flags (a b : Word) (cin : Bool) : FlagUpdate := fun old free =>
  let res := adc16 a b cin
  { old with
    s := res.msb
    z := res == 0
    h := free.h
    pv := a.msb == b.msb && res.msb != a.msb
    n := false
    c := decide (a.toNat + b.toNat + cin.toNat > 65535) }

/-- The result of `sbc16(a, b, cin)` (rule R44). -/
def sbc16 (a b : Word) (cin : Bool) : Word :=
  BitVec.ofInt 16 ((a.toNat : Int) - b.toNat - cin.toNat)

/-- The flags of `sbc16(a, b, cin)` (rule R44): `H` is free. -/
def sbc16Flags (a b : Word) (cin : Bool) : FlagUpdate := fun old free =>
  let res := sbc16 a b cin
  { old with
    s := res.msb
    z := res == 0
    h := free.h
    pv := a.msb != b.msb && res.msb != a.msb
    n := true
    c := decide (a.toNat < b.toNat + cin.toNat) }

/-- `szp(v)` of rule R47: `S`, `Z` and the parity of `v`, with `H` as given and `N` reset; `C` stays. -/
def szpFlags (v : Byte) (h : Bool) : FlagUpdate := fun old _ =>
  { old with
    s := v.msb
    z := v == 0
    h := h
    pv := parityEven v
    n := false }

/-- A condition of `JP`, `CALL`, `RET` (all eight) and `JR` (the first four) (rules R48, R99). -/
inductive Cond where
  | nz
  | z
  | nc
  | c
  | po
  | pe
  | p
  | m
deriving DecidableEq, Repr

/-- Whether a condition is true of the flags (rule R48). -/
def Flags.holds (f : Flags) : Cond → Bool
  | .nz => !f.z
  | .z => f.z
  | .nc => !f.c
  | .c => f.c
  | .po => !f.pv
  | .pe => f.pv
  | .p => !f.s
  | .m => f.s

end Sys2Proof.Machine
end

