-- ==== Sys2Proof/Machine/Memory.lean ====
section
/-! DEFINITION. The memory list: reading and writing one byte at a key, and its canonical form. Which accesses the
platform lets through is `State.readByte` and `State.writeByte` in Machine/Ops.lean. -/

namespace Sys2Proof.Machine

/-- What an address that memory does not list reads as (log entry 2: DESIGN CHOICE, zero). -/
def Memory.unlisted : Byte := 0x00

/-- The byte at an address (rule R61). -/
def Memory.read : Memory → Nat → Byte
  | [], _ => Memory.unlisted
  | (k, v) :: rest, addr => if k = addr then v else Memory.read rest addr

/-- Memory with the byte at one address replaced; an entry that equals `Memory.unlisted` is not listed. -/
def Memory.write : Memory → Nat → Byte → Memory
  | [], addr, v => if v = Memory.unlisted then [] else [(addr, v)]
  | (k, w) :: rest, addr, v =>
    if k < addr then (k, w) :: Memory.write rest addr v
    else if k = addr then (if v = Memory.unlisted then rest else (addr, v) :: rest)
    else if v = Memory.unlisted then (k, w) :: rest
    else (addr, v) :: (k, w) :: rest

/-- Every listed address is at least `least` and below 65536, addresses rise strictly, and no listed byte equals
`Memory.unlisted`. -/
def Memory.wfFrom : Nat → Memory → Bool
  | _, [] => true
  | least, (k, v) :: rest =>
    decide (least ≤ k) && decide (k < 65536) && decide (v ≠ Memory.unlisted) && Memory.wfFrom (k + 1) rest

/-- The canonical form of memory: two memories in it that read alike everywhere are equal. -/
def Memory.wf (m : Memory) : Bool := Memory.wfFrom 0 m

end Sys2Proof.Machine
end

