-- ==== Sys2Proof/Machine/Ops.lean ====
section
/-! DEFINITION. The named operations over the state that the meanings are written with: the program counter, the
flags, byte and word accesses to memory and ports, the stack, the opcode-fetch counter, and, as one shared
operation, taking an interrupt, beside the return from one. -/

namespace Sys2Proof.Machine

/-! ### Register pairs (rule R23) and index halves (rule R25) -/

/-- `BC = B ++ C`. -/
def State.bc (s : State) : Word := joinBytes s.b s.c

/-- `DE = D ++ E`. -/
def State.de (s : State) : Word := joinBytes s.d s.e

/-- `HL = H ++ L`. -/
def State.hl (s : State) : Word := joinBytes s.h s.l

/-- `AF = A ++ F`. -/
def State.af (s : State) : Word := joinBytes s.a s.f.toByte

/-- Writing `BC` writes `B` and `C`. -/
def State.setBC (w : Word) (s : State) : State := { s with b := hiByte w, c := loByte w }

/-- Writing `DE` writes `D` and `E`. -/
def State.setDE (w : Word) (s : State) : State := { s with d := hiByte w, e := loByte w }

/-- Writing `HL` writes `H` and `L`. -/
def State.setHL (w : Word) (s : State) : State := { s with h := hiByte w, l := loByte w }

/-- Writing `AF` writes `A` and all eight bits of `F`, exactly (rules R46, R269). -/
def State.setAF (w : Word) (s : State) : State := { s with a := hiByte w, f := Flags.ofByte (loByte w) }

/-! ### Program counter (rules R27, R28) -/

/-- Move past an instruction of `len` bytes: `PC <- (pc + len) mod 65536` (rule R28). -/
def State.advance (len : Nat) (s : State) : State := { s with pc := s.pc + BitVec.ofNat 16 len }

/-- A control transfer: `PC <- target` (rule R28). -/
def State.goto (target : Word) (s : State) : State := { s with pc := target }

/-! ### Flags (rules R45, R46) -/

/-- The flags holding the free bits of the `n`-th flag write. -/
def freeFlagsAt (n : Nat) : Flags := Flags.ofByte (Config.freeFlags n)

/-- Write the flags: the update sees the old flags and this write's free bits, and `F[5]` and `F[3]` take free bits
whatever it says (rule R46). The next flag write draws afresh. -/
def State.writeFlags (upd : FlagUpdate) (s : State) : State :=
  { s with
    f := { upd s.f (freeFlagsAt s.draws) with f5 := (freeFlagsAt s.draws).f5, f3 := (freeFlagsAt s.draws).f3 }
    draws := s.draws + 1 }

/-! ### Memory (rules R61 to R63, R66) -/

/-- Whether a region holds an address. -/
def Region.covers (g : Region) (addr : Word) : Bool :=
  decide (g.base ≤ addr.toNat) && decide (addr.toNat < g.base + g.size)

/-- What backs an address: the first region that holds it, else RAM (rule R61, decision D3). -/
def State.kindAt (s : State) (addr : Word) : MemKind :=
  match s.memMap.find? (fun g => Region.covers g addr) with
  | some g => g.kind
  | none => .ram

/-- The byte that memory holds at an address, whoever may reach it. -/
def State.peek (s : State) (addr : Word) : Byte := Memory.read s.mem addr.toNat

/-- Record what crosses the bus. -/
def State.logEvent (ev : BusEvent) (s : State) : State := { s with history := ev :: s.history }

/-- `MemRead(addr, 1)` (rule R62): RAM and ROM answer the byte they hold and nothing else happens; a device or an
unbacked address answers a free value, and the access is recorded. -/
def State.readByte (addr : Word) (s : State) : Byte × State :=
  match s.kindAt addr with
  | .ram | .rom => (s.peek addr, s)
  | .unbacked | .device =>
    (Config.platformByte addr s.history, s.logEvent (.memRead addr (Config.platformByte addr s.history)))

/-- `MemWrite(addr, 1, v)` (rule R63): RAM stores the byte, a device is handed it, ROM and nothing ignore it. -/
def State.writeByte (addr : Word) (v : Byte) (s : State) : State :=
  match s.kindAt addr with
  | .ram => { s with mem := Memory.write s.mem addr.toNat v }
  | .rom | .unbacked => s
  | .device => s.logEvent (.memWrite addr v)

/-- `MemRead(addr, 2)` (rule R66): the low byte at `addr` first, then the high byte at `addr + 1`, which wraps. -/
def State.readWord (addr : Word) (s : State) : Word × State :=
  let low := s.readByte addr
  let high := low.2.readByte (addr + 1)
  (joinBytes high.1 low.1, high.2)

/-- `MemWrite(addr, 2, v)` of `LD (nn),rr` (rule R66): the low byte at `addr` first, then the high byte at
`addr + 1`, which wraps. -/
def State.writeWord (addr : Word) (v : Word) (s : State) : State :=
  (s.writeByte addr (loByte v)).writeByte (addr + 1) (hiByte v)

/-- The stack's word store (rule R66, decision D30): the high byte at `addr + 1` first, then the low byte at
`addr`. It leaves the same bytes as `State.writeWord`. -/
def State.writeWordHighFirst (addr : Word) (v : Word) (s : State) : State :=
  (s.writeByte (addr + 1) (hiByte v)).writeByte addr (loByte v)

/-! ### The I/O space (rule R64) -/

/-- `IORead(port16)`: the platform's answer, a free value, and the access recorded. -/
def State.ioRead (port : Word) (s : State) : Byte × State :=
  (Config.ioByte port s.history, s.logEvent (.ioRead port (Config.ioByte port s.history)))

/-- `IOWrite(port16, v)`: the platform is handed the byte. -/
def State.ioWrite (port : Word) (v : Byte) (s : State) : State := s.logEvent (.ioWrite port v)

/-! ### The stack (rules R266, R267) -/

/-- `push16(v)`: `SP` is lowered first, and the word stored at the new `SP` (rule R266). -/
def State.push16 (v : Word) (s : State) : State :=
  State.writeWordHighFirst (s.sp - 2) v { s with sp := s.sp - 2 }

/-- `pop16()`: the word at `SP`, then `SP` raised by 2 (rule R267). -/
def State.pop16 (s : State) : Word × State :=
  let top := s.readWord s.sp
  (top.1, { top.2 with sp := top.2.sp + 2 })

/-! ### The refresh counter (rules R31, R402) -/

/-- `R` after `n` opcode fetches: bits 6 to 0 count modulo 128, bit 7 stays (rule R31). -/
def refreshAfter (r : Byte) (n : Nat) : Byte :=
  (r &&& 0x80) ||| ((r + BitVec.ofNat 8 n) &&& 0x7F)

/-- Count `n` opcode fetches (rules R31, R402). -/
def State.countFetches (n : Nat) (s : State) : State := { s with r := refreshAfter s.r n }

/-! ### Reset, interrupts and the return from one (rules R404 to R408, R412, R450) -/

/-- Reset (rule R450): every register not named here, and memory, stay as they are. -/
def State.doReset (s : State) : State :=
  { s with
    pc := Config.resetPc
    i := 0
    r := 0
    iff1 := false
    iff2 := false
    im := .mode0
    halted := false
    eiShadow := false
    nmiPending := false }

/-- What taking any interrupt does before control moves (rules R404, R408, R412): the halt ends, `IFF1` is cleared,
one opcode fetch is counted. -/
def State.beginInterrupt (s : State) : State :=
  State.countFetches 1 { s with halted := false, iff1 := false }

/-- Taking an interrupt with a known handler address: what `State.beginInterrupt` does, then `PC` is pushed and
control moves to the handler. Nothing else is saved (rule R412). -/
def State.enterHandler (handler : Word) (s : State) : State :=
  (s.beginInterrupt.push16 s.pc).goto handler

/-- Acceptance of a non-maskable interrupt (rule R408): `IFF2` keeps the enable that was. -/
def State.acceptNmi (s : State) : State :=
  State.enterHandler Config.nmiVector { s with nmiPending := false }

/-- The mode-1 acceptance (rules R404, R405). -/
def State.acceptMode1 (s : State) : State :=
  State.enterHandler Config.im1Vector { s with iff2 := false }

/-- The mode-2 acceptance (rules R404, R406): the return address is pushed, then the handler's address is read from
the table entry at `I ++ data`, all eight bits of `data` used (decision D33; log entry 16 for the order). -/
def State.acceptMode2 (data : Byte) (s : State) : State :=
  let pushed := State.push16 s.pc ({ s with iff2 := false } : State).beginInterrupt
  let entry := pushed.readWord (joinBytes s.i data)
  entry.2.goto entry.1

/-- The eight `RST` opcodes `C7 + t` (rules R212, R407). -/
def isRestartOpcode (op : Byte) : Bool := op &&& 0xC7 == 0xC7

/-- The mode-0 acceptance (rules R404, R407, decision D34): a supplied `RST` pushes `PC`, not advanced, and jumps to
its target; any other supplied byte is refused. -/
def State.acceptMode0 (op : Byte) (s : State) : Host.Outcome State Fault Refusal :=
  if isRestartOpcode op then
    .next (State.enterHandler ((op &&& 0x38).setWidth 16) { s with iff2 := false })
  else .refused (.modeZeroInstruction op)

/-- Acceptance of a maskable interrupt (rule R404): both enables are cleared, and control moves as `IM` says. -/
def State.acceptInt (data : Byte) (s : State) : Host.Outcome State Fault Refusal :=
  match s.im with
  | .mode0 => s.acceptMode0 data
  | .mode1 => .next s.acceptMode1
  | .mode2 => .next (s.acceptMode2 data)

/-- The return from an interrupt, shared by `RETI` and `RETN` (rules R210, R211, R413, R414): `PC` is popped and
`IFF1` takes `IFF2`. -/
def State.returnFromInterrupt (s : State) : State :=
  let top := s.pop16
  { top.2 with pc := top.1, iff1 := top.2.iff2 }

end Sys2Proof.Machine
end

