-- ==== Sys2Proof/Machine/Operands.lean ====
section
/-! DEFINITION. The operand forms of 30_encoding.md: 8-bit registers and index halves (rules R96, R112), 16-bit
registers (rules R97, R98), the memory operands `(HL)`, `(IX+d)`, `(IY+d)` and immediates, with `read8` and `write8`
(rules R105, R115, R116). -/

namespace Sys2Proof.Machine

/-- An 8-bit register operand: `r8[k]` of rule R96 but for `(HL)`, and the index halves. -/
inductive Reg8 where
  | a
  | b
  | c
  | d
  | e
  | h
  | l
  | ixh
  | ixl
  | iyh
  | iyl
deriving DecidableEq, Repr

/-- A 16-bit register operand (rules R97, R98). -/
inductive Reg16 where
  | bc
  | de
  | hl
  | sp
  | ix
  | iy
  | af
deriving DecidableEq, Repr

/-- An 8-bit operand that can be written: a register or a memory byte (`m` and `m8` of the instruction files). -/
inductive Place8 where
  | reg (r : Reg8)
  | atHL
  | atIX (d : Byte)
  | atIY (d : Byte)
deriving DecidableEq, Repr

/-- An 8-bit source operand: a place or an immediate byte (`s` of the instruction files). -/
inductive Operand8 where
  | place (p : Place8)
  | imm (n : Byte)
deriving DecidableEq, Repr

/-- Where a place lies once its effective address is computed (rule R116: computed once). -/
inductive Location8 where
  | reg (r : Reg8)
  | mem (addr : Word)
deriving DecidableEq, Repr

/-- The value of an 8-bit register; an index half is bits 15 to 8 or 7 to 0 (rule R25). -/
def State.reg8 (s : State) : Reg8 → Byte
  | .a => s.a
  | .b => s.b
  | .c => s.c
  | .d => s.d
  | .e => s.e
  | .h => s.h
  | .l => s.l
  | .ixh => hiByte s.ix
  | .ixl => loByte s.ix
  | .iyh => hiByte s.iy
  | .iyl => loByte s.iy

/-- Write an 8-bit register; writing an index half leaves the other half (rule R25). -/
def State.setReg8 (r : Reg8) (v : Byte) (s : State) : State :=
  match r with
  | .a => { s with a := v }
  | .b => { s with b := v }
  | .c => { s with c := v }
  | .d => { s with d := v }
  | .e => { s with e := v }
  | .h => { s with h := v }
  | .l => { s with l := v }
  | .ixh => { s with ix := joinBytes v (loByte s.ix) }
  | .ixl => { s with ix := joinBytes (hiByte s.ix) v }
  | .iyh => { s with iy := joinBytes v (loByte s.iy) }
  | .iyl => { s with iy := joinBytes (hiByte s.iy) v }

/-- The value of a 16-bit register. -/
def State.reg16 (s : State) : Reg16 → Word
  | .bc => s.bc
  | .de => s.de
  | .hl => s.hl
  | .sp => s.sp
  | .ix => s.ix
  | .iy => s.iy
  | .af => s.af

/-- Write a 16-bit register. -/
def State.setReg16 (r : Reg16) (v : Word) (s : State) : State :=
  match r with
  | .bc => s.setBC v
  | .de => s.setDE v
  | .hl => s.setHL v
  | .sp => { s with sp := v }
  | .ix => { s with ix := v }
  | .iy => { s with iy := v }
  | .af => s.setAF v

/-- `(base + sext_16(d)) mod 65536` (rules R72, R105). -/
def displaced (base : Word) (d : Byte) : Word := base + d.signExtend 16

/-- Where a place lies: a register, or its effective address (rules R105, R115). -/
def State.locate (s : State) : Place8 → Location8
  | .reg r => .reg r
  | .atHL => .mem s.hl
  | .atIX d => .mem (displaced s.ix d)
  | .atIY d => .mem (displaced s.iy d)

/-- Read a located operand; memory is read once (rule R115). -/
def State.readLocation (loc : Location8) (s : State) : Byte × State :=
  match loc with
  | .reg r => (s.reg8 r, s)
  | .mem addr => s.readByte addr

/-- Write a located operand (rule R116). -/
def State.writeLocation (loc : Location8) (v : Byte) (s : State) : State :=
  match loc with
  | .reg r => s.setReg8 r v
  | .mem addr => s.writeByte addr v

/-- `read8(opnd)` (rule R115). -/
def State.read8 (o : Operand8) (s : State) : Byte × State :=
  match o with
  | .place p => s.readLocation (s.locate p)
  | .imm n => (n, s)

end Sys2Proof.Machine
end

