-- ==== Sys2Proof/Machine/Arithmetic.lean ====
section
/-! DEFINITION. The meanings of `ADD`, `ADC`, `SUB`, `SBC`, `CP`, `NEG`, `INC`, `DEC` and `DAA` (40_arithmetic.md,
rules R130 to R143), after the operations they share. -/

namespace Sys2Proof.Machine

/-- `ADD A,s` (rule R130). -/
def State.addA (o : Operand8) (len : Nat) (s : State) : State :=
  let v := s.read8 o
  (State.writeFlags (add8Flags s.a v.1 false) { v.2 with a := add8 s.a v.1 false }).advance len

/-- `ADC A,s` (rule R131): the carry-in is the `C` flag before the instruction. -/
def State.adcA (o : Operand8) (len : Nat) (s : State) : State :=
  let v := s.read8 o
  (State.writeFlags (add8Flags s.a v.1 s.f.c) { v.2 with a := add8 s.a v.1 s.f.c }).advance len

/-- `SUB s` (rule R132). -/
def State.subA (o : Operand8) (len : Nat) (s : State) : State :=
  let v := s.read8 o
  (State.writeFlags (sub8Flags s.a v.1 false) { v.2 with a := sub8 s.a v.1 false }).advance len

/-- `SBC A,s` (rule R133). -/
def State.sbcA (o : Operand8) (len : Nat) (s : State) : State :=
  let v := s.read8 o
  (State.writeFlags (sub8Flags s.a v.1 s.f.c) { v.2 with a := sub8 s.a v.1 s.f.c }).advance len

/-- `CP s` (rule R134): the flags of `SUB s`; `A` is not written. -/
def State.cpA (o : Operand8) (len : Nat) (s : State) : State :=
  let v := s.read8 o
  (v.2.writeFlags (sub8Flags s.a v.1 false)).advance len

/-- `NEG` (rule R135): `0 - A`. -/
def State.negA (s : State) : State :=
  (State.writeFlags (sub8Flags 0 s.a false) { s with a := sub8 0 s.a false }).advance 2

/-- `INC m`, 8-bit (rule R136). -/
def State.incPlace (p : Place8) (len : Nat) (s : State) : State :=
  let loc := s.locate p
  let v := s.readLocation loc
  ((v.2.writeLocation loc (v.1 + 1)).writeFlags (inc8Flags v.1)).advance len

/-- `DEC m`, 8-bit (rule R137). -/
def State.decPlace (p : Place8) (len : Nat) (s : State) : State :=
  let loc := s.locate p
  let v := s.readLocation loc
  ((v.2.writeLocation loc (v.1 - 1)).writeFlags (dec8Flags v.1)).advance len

/-- `INC ss`, 16-bit (rule R138): no flag. -/
def State.incWord (r : Reg16) (len : Nat) (s : State) : State :=
  (s.setReg16 r (s.reg16 r + 1)).advance len

/-- `DEC ss`, 16-bit (rule R139): no flag. -/
def State.decWord (r : Reg16) (len : Nat) (s : State) : State :=
  (s.setReg16 r (s.reg16 r - 1)).advance len

/-- `ADD HL,ss`, `ADD IX,pp`, `ADD IY,rr` (rule R140). -/
def State.addWord (dst src : Reg16) (len : Nat) (s : State) : State :=
  ((s.setReg16 dst (s.reg16 dst + s.reg16 src)).writeFlags
    (add16Flags (s.reg16 dst) (s.reg16 src))).advance len

/-- `ADC HL,ss` (rule R141). -/
def State.adcHL (src : Reg16) (s : State) : State :=
  ((s.setHL (adc16 s.hl (s.reg16 src) s.f.c)).writeFlags (adc16Flags s.hl (s.reg16 src) s.f.c)).advance 2

/-- `SBC HL,ss` (rule R142). -/
def State.sbcHL (src : Reg16) (s : State) : State :=
  ((s.setHL (sbc16 s.hl (s.reg16 src) s.f.c)).writeFlags (sbc16Flags s.hl (s.reg16 src) s.f.c)).advance 2

/-- Whether `DAA` corrects the low digit (rule R143). -/
def daaLow (a : Byte) (f : Flags) : Bool := f.h || decide (lowNibble a > 9)

/-- Whether `DAA` corrects the high digit: this is also its carry out (rule R143). -/
def daaHigh (a : Byte) (f : Flags) : Bool := f.c || decide (a.toNat > 0x99)

/-- The correction of `DAA`: $00, $06, $60 or $66 (rule R143). -/
def daaCorrection (a : Byte) (f : Flags) : Byte :=
  (if daaLow a f then 0x06 else 0x00) ||| (if daaHigh a f then 0x60 else 0x00)

/-- The result of `DAA`: the correction added after an addition, subtracted after a subtraction (rule R143). -/
def daaResult (a : Byte) (f : Flags) : Byte :=
  if f.n then a - daaCorrection a f else a + daaCorrection a f

/-- The flags of `DAA` (rule R143); `N` stays. -/
def daaFlags (a : Byte) : FlagUpdate := fun old _ =>
  { old with
    s := (daaResult a old).msb
    z := daaResult a old == 0
    h := if old.n then old.h && decide (lowNibble a < 6) else decide (lowNibble a > 9)
    pv := parityEven (daaResult a old)
    c := daaHigh a old }

/-- `DAA` (rule R143). -/
def State.decimalAdjust (s : State) : State :=
  (State.writeFlags (daaFlags s.a) { s with a := daaResult s.a s.f }).advance 1

/-! ### The meanings, one per instruction -/

/-- `ADD HL,BC`, rule R140. -/
def execAdd_HL_BC (s : State) : Host.Outcome State Fault Refusal := .next (s.addWord .hl .bc 1)

/-- `INC BC`, rule R138. -/
def execInc_BC (s : State) : Host.Outcome State Fault Refusal := .next (s.incWord .bc 1)

/-- `DEC BC`, rule R139. -/
def execDec_BC (s : State) : Host.Outcome State Fault Refusal := .next (s.decWord .bc 1)

/-- `ADD HL,DE`, rule R140. -/
def execAdd_HL_DE (s : State) : Host.Outcome State Fault Refusal := .next (s.addWord .hl .de 1)

/-- `INC DE`, rule R138. -/
def execInc_DE (s : State) : Host.Outcome State Fault Refusal := .next (s.incWord .de 1)

/-- `DEC DE`, rule R139. -/
def execDec_DE (s : State) : Host.Outcome State Fault Refusal := .next (s.decWord .de 1)

/-- `ADD HL,HL`, rule R140. -/
def execAdd_HL_HL (s : State) : Host.Outcome State Fault Refusal := .next (s.addWord .hl .hl 1)

/-- `INC HL`, rule R138. -/
def execInc_HL (s : State) : Host.Outcome State Fault Refusal := .next (s.incWord .hl 1)

/-- `DEC HL`, rule R139. -/
def execDec_HL (s : State) : Host.Outcome State Fault Refusal := .next (s.decWord .hl 1)

/-- `ADD HL,SP`, rule R140. -/
def execAdd_HL_SP (s : State) : Host.Outcome State Fault Refusal := .next (s.addWord .hl .sp 1)

/-- `INC SP`, rule R138. -/
def execInc_SP (s : State) : Host.Outcome State Fault Refusal := .next (s.incWord .sp 1)

/-- `DEC SP`, rule R139. -/
def execDec_SP (s : State) : Host.Outcome State Fault Refusal := .next (s.decWord .sp 1)

/-- `INC B`, rule R136. -/
def execInc_B (s : State) : Host.Outcome State Fault Refusal := .next (s.incPlace (.reg .b) 1)

/-- `DEC B`, rule R137. -/
def execDec_B (s : State) : Host.Outcome State Fault Refusal := .next (s.decPlace (.reg .b) 1)

/-- `INC C`, rule R136. -/
def execInc_C (s : State) : Host.Outcome State Fault Refusal := .next (s.incPlace (.reg .c) 1)

/-- `DEC C`, rule R137. -/
def execDec_C (s : State) : Host.Outcome State Fault Refusal := .next (s.decPlace (.reg .c) 1)

/-- `INC D`, rule R136. -/
def execInc_D (s : State) : Host.Outcome State Fault Refusal := .next (s.incPlace (.reg .d) 1)

/-- `DEC D`, rule R137. -/
def execDec_D (s : State) : Host.Outcome State Fault Refusal := .next (s.decPlace (.reg .d) 1)

/-- `INC E`, rule R136. -/
def execInc_E (s : State) : Host.Outcome State Fault Refusal := .next (s.incPlace (.reg .e) 1)

/-- `DEC E`, rule R137. -/
def execDec_E (s : State) : Host.Outcome State Fault Refusal := .next (s.decPlace (.reg .e) 1)

/-- `INC H`, rule R136. -/
def execInc_H (s : State) : Host.Outcome State Fault Refusal := .next (s.incPlace (.reg .h) 1)

/-- `DEC H`, rule R137. -/
def execDec_H (s : State) : Host.Outcome State Fault Refusal := .next (s.decPlace (.reg .h) 1)

/-- `INC L`, rule R136. -/
def execInc_L (s : State) : Host.Outcome State Fault Refusal := .next (s.incPlace (.reg .l) 1)

/-- `DEC L`, rule R137. -/
def execDec_L (s : State) : Host.Outcome State Fault Refusal := .next (s.decPlace (.reg .l) 1)

/-- `INC (HL)`, rule R136. -/
def execInc_atHL (s : State) : Host.Outcome State Fault Refusal := .next (s.incPlace .atHL 1)

/-- `DEC (HL)`, rule R137. -/
def execDec_atHL (s : State) : Host.Outcome State Fault Refusal := .next (s.decPlace .atHL 1)

/-- `INC A`, rule R136. -/
def execInc_A (s : State) : Host.Outcome State Fault Refusal := .next (s.incPlace (.reg .a) 1)

/-- `DEC A`, rule R137. -/
def execDec_A (s : State) : Host.Outcome State Fault Refusal := .next (s.decPlace (.reg .a) 1)

/-- `DAA`, rule R143. -/
def execDaa (s : State) : Host.Outcome State Fault Refusal := .next (s.decimalAdjust)

/-- `ADD A,B`, rule R130. -/
def execAdd_A_B (s : State) : Host.Outcome State Fault Refusal := .next (s.addA (.place (.reg .b)) 1)

/-- `ADD A,C`, rule R130. -/
def execAdd_A_C (s : State) : Host.Outcome State Fault Refusal := .next (s.addA (.place (.reg .c)) 1)

/-- `ADD A,D`, rule R130. -/
def execAdd_A_D (s : State) : Host.Outcome State Fault Refusal := .next (s.addA (.place (.reg .d)) 1)

/-- `ADD A,E`, rule R130. -/
def execAdd_A_E (s : State) : Host.Outcome State Fault Refusal := .next (s.addA (.place (.reg .e)) 1)

/-- `ADD A,H`, rule R130. -/
def execAdd_A_H (s : State) : Host.Outcome State Fault Refusal := .next (s.addA (.place (.reg .h)) 1)

/-- `ADD A,L`, rule R130. -/
def execAdd_A_L (s : State) : Host.Outcome State Fault Refusal := .next (s.addA (.place (.reg .l)) 1)

/-- `ADD A,(HL)`, rule R130. -/
def execAdd_A_atHL (s : State) : Host.Outcome State Fault Refusal := .next (s.addA (.place .atHL) 1)

/-- `ADD A,A`, rule R130. -/
def execAdd_A_A (s : State) : Host.Outcome State Fault Refusal := .next (s.addA (.place (.reg .a)) 1)

/-- `ADD A,n`, rule R130. -/
def execAdd_A_n (n : Byte) (s : State) : Host.Outcome State Fault Refusal := .next (s.addA (.imm n) 2)

/-- `ADC A,B`, rule R131. -/
def execAdc_A_B (s : State) : Host.Outcome State Fault Refusal := .next (s.adcA (.place (.reg .b)) 1)

/-- `ADC A,C`, rule R131. -/
def execAdc_A_C (s : State) : Host.Outcome State Fault Refusal := .next (s.adcA (.place (.reg .c)) 1)

/-- `ADC A,D`, rule R131. -/
def execAdc_A_D (s : State) : Host.Outcome State Fault Refusal := .next (s.adcA (.place (.reg .d)) 1)

/-- `ADC A,E`, rule R131. -/
def execAdc_A_E (s : State) : Host.Outcome State Fault Refusal := .next (s.adcA (.place (.reg .e)) 1)

/-- `ADC A,H`, rule R131. -/
def execAdc_A_H (s : State) : Host.Outcome State Fault Refusal := .next (s.adcA (.place (.reg .h)) 1)

/-- `ADC A,L`, rule R131. -/
def execAdc_A_L (s : State) : Host.Outcome State Fault Refusal := .next (s.adcA (.place (.reg .l)) 1)

/-- `ADC A,(HL)`, rule R131. -/
def execAdc_A_atHL (s : State) : Host.Outcome State Fault Refusal := .next (s.adcA (.place .atHL) 1)

/-- `ADC A,A`, rule R131. -/
def execAdc_A_A (s : State) : Host.Outcome State Fault Refusal := .next (s.adcA (.place (.reg .a)) 1)

/-- `ADC A,n`, rule R131. -/
def execAdc_A_n (n : Byte) (s : State) : Host.Outcome State Fault Refusal := .next (s.adcA (.imm n) 2)

/-- `SUB B`, rule R132. -/
def execSub_B (s : State) : Host.Outcome State Fault Refusal := .next (s.subA (.place (.reg .b)) 1)

/-- `SUB C`, rule R132. -/
def execSub_C (s : State) : Host.Outcome State Fault Refusal := .next (s.subA (.place (.reg .c)) 1)

/-- `SUB D`, rule R132. -/
def execSub_D (s : State) : Host.Outcome State Fault Refusal := .next (s.subA (.place (.reg .d)) 1)

/-- `SUB E`, rule R132. -/
def execSub_E (s : State) : Host.Outcome State Fault Refusal := .next (s.subA (.place (.reg .e)) 1)

/-- `SUB H`, rule R132. -/
def execSub_H (s : State) : Host.Outcome State Fault Refusal := .next (s.subA (.place (.reg .h)) 1)

/-- `SUB L`, rule R132. -/
def execSub_L (s : State) : Host.Outcome State Fault Refusal := .next (s.subA (.place (.reg .l)) 1)

/-- `SUB (HL)`, rule R132. -/
def execSub_atHL (s : State) : Host.Outcome State Fault Refusal := .next (s.subA (.place .atHL) 1)

/-- `SUB A`, rule R132. -/
def execSub_A (s : State) : Host.Outcome State Fault Refusal := .next (s.subA (.place (.reg .a)) 1)

/-- `SUB n`, rule R132. -/
def execSub_n (n : Byte) (s : State) : Host.Outcome State Fault Refusal := .next (s.subA (.imm n) 2)

/-- `SBC A,B`, rule R133. -/
def execSbc_A_B (s : State) : Host.Outcome State Fault Refusal := .next (s.sbcA (.place (.reg .b)) 1)

/-- `SBC A,C`, rule R133. -/
def execSbc_A_C (s : State) : Host.Outcome State Fault Refusal := .next (s.sbcA (.place (.reg .c)) 1)

/-- `SBC A,D`, rule R133. -/
def execSbc_A_D (s : State) : Host.Outcome State Fault Refusal := .next (s.sbcA (.place (.reg .d)) 1)

/-- `SBC A,E`, rule R133. -/
def execSbc_A_E (s : State) : Host.Outcome State Fault Refusal := .next (s.sbcA (.place (.reg .e)) 1)

/-- `SBC A,H`, rule R133. -/
def execSbc_A_H (s : State) : Host.Outcome State Fault Refusal := .next (s.sbcA (.place (.reg .h)) 1)

/-- `SBC A,L`, rule R133. -/
def execSbc_A_L (s : State) : Host.Outcome State Fault Refusal := .next (s.sbcA (.place (.reg .l)) 1)

/-- `SBC A,(HL)`, rule R133. -/
def execSbc_A_atHL (s : State) : Host.Outcome State Fault Refusal := .next (s.sbcA (.place .atHL) 1)

/-- `SBC A,A`, rule R133. -/
def execSbc_A_A (s : State) : Host.Outcome State Fault Refusal := .next (s.sbcA (.place (.reg .a)) 1)

/-- `SBC A,n`, rule R133. -/
def execSbc_A_n (n : Byte) (s : State) : Host.Outcome State Fault Refusal := .next (s.sbcA (.imm n) 2)

/-- `CP B`, rule R134. -/
def execCp_B (s : State) : Host.Outcome State Fault Refusal := .next (s.cpA (.place (.reg .b)) 1)

/-- `CP C`, rule R134. -/
def execCp_C (s : State) : Host.Outcome State Fault Refusal := .next (s.cpA (.place (.reg .c)) 1)

/-- `CP D`, rule R134. -/
def execCp_D (s : State) : Host.Outcome State Fault Refusal := .next (s.cpA (.place (.reg .d)) 1)

/-- `CP E`, rule R134. -/
def execCp_E (s : State) : Host.Outcome State Fault Refusal := .next (s.cpA (.place (.reg .e)) 1)

/-- `CP H`, rule R134. -/
def execCp_H (s : State) : Host.Outcome State Fault Refusal := .next (s.cpA (.place (.reg .h)) 1)

/-- `CP L`, rule R134. -/
def execCp_L (s : State) : Host.Outcome State Fault Refusal := .next (s.cpA (.place (.reg .l)) 1)

/-- `CP (HL)`, rule R134. -/
def execCp_atHL (s : State) : Host.Outcome State Fault Refusal := .next (s.cpA (.place .atHL) 1)

/-- `CP A`, rule R134. -/
def execCp_A (s : State) : Host.Outcome State Fault Refusal := .next (s.cpA (.place (.reg .a)) 1)

/-- `CP n`, rule R134. -/
def execCp_n (n : Byte) (s : State) : Host.Outcome State Fault Refusal := .next (s.cpA (.imm n) 2)

/-- `SBC HL,BC`, rule R142. -/
def execSbc_HL_BC (s : State) : Host.Outcome State Fault Refusal := .next (s.sbcHL .bc)

/-- `ADC HL,BC`, rule R141. -/
def execAdc_HL_BC (s : State) : Host.Outcome State Fault Refusal := .next (s.adcHL .bc)

/-- `SBC HL,DE`, rule R142. -/
def execSbc_HL_DE (s : State) : Host.Outcome State Fault Refusal := .next (s.sbcHL .de)

/-- `ADC HL,DE`, rule R141. -/
def execAdc_HL_DE (s : State) : Host.Outcome State Fault Refusal := .next (s.adcHL .de)

/-- `SBC HL,HL`, rule R142. -/
def execSbc_HL_HL (s : State) : Host.Outcome State Fault Refusal := .next (s.sbcHL .hl)

/-- `ADC HL,HL`, rule R141. -/
def execAdc_HL_HL (s : State) : Host.Outcome State Fault Refusal := .next (s.adcHL .hl)

/-- `SBC HL,SP`, rule R142. -/
def execSbc_HL_SP (s : State) : Host.Outcome State Fault Refusal := .next (s.sbcHL .sp)

/-- `ADC HL,SP`, rule R141. -/
def execAdc_HL_SP (s : State) : Host.Outcome State Fault Refusal := .next (s.adcHL .sp)

/-- `NEG`, rule R135. -/
def execNeg (s : State) : Host.Outcome State Fault Refusal := .next (s.negA)

/-- `ADD IX,BC`, rule R140. -/
def execAdd_IX_BC (s : State) : Host.Outcome State Fault Refusal := .next (s.addWord .ix .bc 2)

/-- `ADD IX,DE`, rule R140. -/
def execAdd_IX_DE (s : State) : Host.Outcome State Fault Refusal := .next (s.addWord .ix .de 2)

/-- `ADD IX,IX`, rule R140. -/
def execAdd_IX_IX (s : State) : Host.Outcome State Fault Refusal := .next (s.addWord .ix .ix 2)

/-- `ADD IX,SP`, rule R140. -/
def execAdd_IX_SP (s : State) : Host.Outcome State Fault Refusal := .next (s.addWord .ix .sp 2)

/-- `INC IX`, rule R138. -/
def execInc_IX (s : State) : Host.Outcome State Fault Refusal := .next (s.incWord .ix 2)

/-- `DEC IX`, rule R139. -/
def execDec_IX (s : State) : Host.Outcome State Fault Refusal := .next (s.decWord .ix 2)

/-- `INC IXH`, rule R136. -/
def execInc_IXH (s : State) : Host.Outcome State Fault Refusal := .next (s.incPlace (.reg .ixh) 2)

/-- `DEC IXH`, rule R137. -/
def execDec_IXH (s : State) : Host.Outcome State Fault Refusal := .next (s.decPlace (.reg .ixh) 2)

/-- `INC IXL`, rule R136. -/
def execInc_IXL (s : State) : Host.Outcome State Fault Refusal := .next (s.incPlace (.reg .ixl) 2)

/-- `DEC IXL`, rule R137. -/
def execDec_IXL (s : State) : Host.Outcome State Fault Refusal := .next (s.decPlace (.reg .ixl) 2)

/-- `INC (IX+d)`, rule R136. -/
def execInc_atIXd (d : Byte) (s : State) : Host.Outcome State Fault Refusal := .next (s.incPlace (.atIX d) 3)

/-- `DEC (IX+d)`, rule R137. -/
def execDec_atIXd (d : Byte) (s : State) : Host.Outcome State Fault Refusal := .next (s.decPlace (.atIX d) 3)

/-- `ADD A,IXH`, rule R130. -/
def execAdd_A_IXH (s : State) : Host.Outcome State Fault Refusal := .next (s.addA (.place (.reg .ixh)) 2)

/-- `ADD A,IXL`, rule R130. -/
def execAdd_A_IXL (s : State) : Host.Outcome State Fault Refusal := .next (s.addA (.place (.reg .ixl)) 2)

/-- `ADD A,(IX+d)`, rule R130. -/
def execAdd_A_atIXd (d : Byte) (s : State) : Host.Outcome State Fault Refusal := .next (s.addA (.place (.atIX d)) 3)

/-- `ADC A,IXH`, rule R131. -/
def execAdc_A_IXH (s : State) : Host.Outcome State Fault Refusal := .next (s.adcA (.place (.reg .ixh)) 2)

/-- `ADC A,IXL`, rule R131. -/
def execAdc_A_IXL (s : State) : Host.Outcome State Fault Refusal := .next (s.adcA (.place (.reg .ixl)) 2)

/-- `ADC A,(IX+d)`, rule R131. -/
def execAdc_A_atIXd (d : Byte) (s : State) : Host.Outcome State Fault Refusal := .next (s.adcA (.place (.atIX d)) 3)

/-- `SUB IXH`, rule R132. -/
def execSub_IXH (s : State) : Host.Outcome State Fault Refusal := .next (s.subA (.place (.reg .ixh)) 2)

/-- `SUB IXL`, rule R132. -/
def execSub_IXL (s : State) : Host.Outcome State Fault Refusal := .next (s.subA (.place (.reg .ixl)) 2)

/-- `SUB (IX+d)`, rule R132. -/
def execSub_atIXd (d : Byte) (s : State) : Host.Outcome State Fault Refusal := .next (s.subA (.place (.atIX d)) 3)

/-- `SBC A,IXH`, rule R133. -/
def execSbc_A_IXH (s : State) : Host.Outcome State Fault Refusal := .next (s.sbcA (.place (.reg .ixh)) 2)

/-- `SBC A,IXL`, rule R133. -/
def execSbc_A_IXL (s : State) : Host.Outcome State Fault Refusal := .next (s.sbcA (.place (.reg .ixl)) 2)

/-- `SBC A,(IX+d)`, rule R133. -/
def execSbc_A_atIXd (d : Byte) (s : State) : Host.Outcome State Fault Refusal := .next (s.sbcA (.place (.atIX d)) 3)

/-- `CP IXH`, rule R134. -/
def execCp_IXH (s : State) : Host.Outcome State Fault Refusal := .next (s.cpA (.place (.reg .ixh)) 2)

/-- `CP IXL`, rule R134. -/
def execCp_IXL (s : State) : Host.Outcome State Fault Refusal := .next (s.cpA (.place (.reg .ixl)) 2)

/-- `CP (IX+d)`, rule R134. -/
def execCp_atIXd (d : Byte) (s : State) : Host.Outcome State Fault Refusal := .next (s.cpA (.place (.atIX d)) 3)

/-- `ADD IY,BC`, rule R140. -/
def execAdd_IY_BC (s : State) : Host.Outcome State Fault Refusal := .next (s.addWord .iy .bc 2)

/-- `ADD IY,DE`, rule R140. -/
def execAdd_IY_DE (s : State) : Host.Outcome State Fault Refusal := .next (s.addWord .iy .de 2)

/-- `ADD IY,IY`, rule R140. -/
def execAdd_IY_IY (s : State) : Host.Outcome State Fault Refusal := .next (s.addWord .iy .iy 2)

/-- `ADD IY,SP`, rule R140. -/
def execAdd_IY_SP (s : State) : Host.Outcome State Fault Refusal := .next (s.addWord .iy .sp 2)

/-- `INC IY`, rule R138. -/
def execInc_IY (s : State) : Host.Outcome State Fault Refusal := .next (s.incWord .iy 2)

/-- `DEC IY`, rule R139. -/
def execDec_IY (s : State) : Host.Outcome State Fault Refusal := .next (s.decWord .iy 2)

/-- `INC IYH`, rule R136. -/
def execInc_IYH (s : State) : Host.Outcome State Fault Refusal := .next (s.incPlace (.reg .iyh) 2)

/-- `DEC IYH`, rule R137. -/
def execDec_IYH (s : State) : Host.Outcome State Fault Refusal := .next (s.decPlace (.reg .iyh) 2)

/-- `INC IYL`, rule R136. -/
def execInc_IYL (s : State) : Host.Outcome State Fault Refusal := .next (s.incPlace (.reg .iyl) 2)

/-- `DEC IYL`, rule R137. -/
def execDec_IYL (s : State) : Host.Outcome State Fault Refusal := .next (s.decPlace (.reg .iyl) 2)

/-- `INC (IY+d)`, rule R136. -/
def execInc_atIYd (d : Byte) (s : State) : Host.Outcome State Fault Refusal := .next (s.incPlace (.atIY d) 3)

/-- `DEC (IY+d)`, rule R137. -/
def execDec_atIYd (d : Byte) (s : State) : Host.Outcome State Fault Refusal := .next (s.decPlace (.atIY d) 3)

/-- `ADD A,IYH`, rule R130. -/
def execAdd_A_IYH (s : State) : Host.Outcome State Fault Refusal := .next (s.addA (.place (.reg .iyh)) 2)

/-- `ADD A,IYL`, rule R130. -/
def execAdd_A_IYL (s : State) : Host.Outcome State Fault Refusal := .next (s.addA (.place (.reg .iyl)) 2)

/-- `ADD A,(IY+d)`, rule R130. -/
def execAdd_A_atIYd (d : Byte) (s : State) : Host.Outcome State Fault Refusal := .next (s.addA (.place (.atIY d)) 3)

/-- `ADC A,IYH`, rule R131. -/
def execAdc_A_IYH (s : State) : Host.Outcome State Fault Refusal := .next (s.adcA (.place (.reg .iyh)) 2)

/-- `ADC A,IYL`, rule R131. -/
def execAdc_A_IYL (s : State) : Host.Outcome State Fault Refusal := .next (s.adcA (.place (.reg .iyl)) 2)

/-- `ADC A,(IY+d)`, rule R131. -/
def execAdc_A_atIYd (d : Byte) (s : State) : Host.Outcome State Fault Refusal := .next (s.adcA (.place (.atIY d)) 3)

/-- `SUB IYH`, rule R132. -/
def execSub_IYH (s : State) : Host.Outcome State Fault Refusal := .next (s.subA (.place (.reg .iyh)) 2)

/-- `SUB IYL`, rule R132. -/
def execSub_IYL (s : State) : Host.Outcome State Fault Refusal := .next (s.subA (.place (.reg .iyl)) 2)

/-- `SUB (IY+d)`, rule R132. -/
def execSub_atIYd (d : Byte) (s : State) : Host.Outcome State Fault Refusal := .next (s.subA (.place (.atIY d)) 3)

/-- `SBC A,IYH`, rule R133. -/
def execSbc_A_IYH (s : State) : Host.Outcome State Fault Refusal := .next (s.sbcA (.place (.reg .iyh)) 2)

/-- `SBC A,IYL`, rule R133. -/
def execSbc_A_IYL (s : State) : Host.Outcome State Fault Refusal := .next (s.sbcA (.place (.reg .iyl)) 2)

/-- `SBC A,(IY+d)`, rule R133. -/
def execSbc_A_atIYd (d : Byte) (s : State) : Host.Outcome State Fault Refusal := .next (s.sbcA (.place (.atIY d)) 3)

/-- `CP IYH`, rule R134. -/
def execCp_IYH (s : State) : Host.Outcome State Fault Refusal := .next (s.cpA (.place (.reg .iyh)) 2)

/-- `CP IYL`, rule R134. -/
def execCp_IYL (s : State) : Host.Outcome State Fault Refusal := .next (s.cpA (.place (.reg .iyl)) 2)

/-- `CP (IY+d)`, rule R134. -/
def execCp_atIYd (d : Byte) (s : State) : Host.Outcome State Fault Refusal := .next (s.cpA (.place (.atIY d)) 3)

end Sys2Proof.Machine
end

