-- ==== Sys2Proof/Machine/Block.lean ====
section
/-! DEFINITION. The meanings of the block moves and block compares (43_block.md, rules R230 to R239), after the
operations they share. A repeating instruction does one iteration a step (rule R231). -/

namespace Sys2Proof.Machine

/-- Which way a block instruction moves its pointers: `+1` or `-1` (rule R230). -/
inductive Direction where
  | up
  | down
deriving DecidableEq, Repr

/-- A pointer after one iteration; it wraps (rule R72). -/
def Direction.move (dir : Direction) (w : Word) : Word :=
  match dir with
  | .up => w + 1
  | .down => w - 1

/-- The flags of a block compare (rules R232, R233): of `A - (HL)`, with `P/V` telling whether count remains; `C`
stays. -/
def blockCompareFlags (a v : Byte) (remains : Bool) : FlagUpdate := fun old free =>
  { sub8Flags a v false old free with pv := remains, c := old.c }

/-- `CPI` and `CPD` but for the final move of `PC` (rules R232, R233). -/
def State.compareStep (dir : Direction) (s : State) : State :=
  let v := s.readByte s.hl
  ((v.2.setHL (dir.move s.hl)).setBC (s.bc - 1)).writeFlags (blockCompareFlags s.a v.1 (s.bc - 1 != 0))

/-- The flags of a block move (rules R236, R237): `P/V` tells whether count remains, `H` and `N` are reset. -/
def blockMoveFlags (remains : Bool) : FlagUpdate := fun old _ =>
  { old with pv := remains, h := false, n := false }

/-- `LDI` and `LDD` but for the final move of `PC` (rules R236, R237). -/
def State.moveStep (dir : Direction) (s : State) : State :=
  let v := s.readByte s.hl
  ((((v.2.writeByte s.de v.1).setHL (dir.move s.hl)).setDE (dir.move s.de)).setBC (s.bc - 1)).writeFlags
    (blockMoveFlags (s.bc - 1 != 0))

/-- `PC` after an iteration of a repeating instruction: past its two bytes when it is done, else where it was, so
that the next step fetches it again (rules R28, R231). -/
def State.endIteration (done : Bool) (s : State) : State := if done then s.advance 2 else s

/-- `LDIR` and `LDDR`, one iteration (rules R238, R239): done when `BC` has reached 0. -/
def State.moveRepeat (dir : Direction) (s : State) : State :=
  let t := s.moveStep dir
  t.endIteration (t.bc == 0)

/-- `CPIR` and `CPDR`, one iteration (rules R234, R235): done when `BC` has reached 0 or the byte matched. -/
def State.compareRepeat (dir : Direction) (s : State) : State :=
  let t := s.compareStep dir
  t.endIteration (t.bc == 0 || t.f.z)

/-! ### The meanings, one per instruction -/

/-- `LDI`, rule R236. -/
def execLdi (s : State) : Host.Outcome State Fault Refusal := .next ((s.moveStep .up).advance 2)

/-- `CPI`, rule R232. -/
def execCpi (s : State) : Host.Outcome State Fault Refusal := .next ((s.compareStep .up).advance 2)

/-- `LDD`, rule R237. -/
def execLdd (s : State) : Host.Outcome State Fault Refusal := .next ((s.moveStep .down).advance 2)

/-- `CPD`, rule R233. -/
def execCpd (s : State) : Host.Outcome State Fault Refusal := .next ((s.compareStep .down).advance 2)

/-- `LDIR`, rule R238. -/
def execLdir (s : State) : Host.Outcome State Fault Refusal := .next (s.moveRepeat .up)

/-- `CPIR`, rule R234. -/
def execCpir (s : State) : Host.Outcome State Fault Refusal := .next (s.compareRepeat .up)

/-- `LDDR`, rule R239. -/
def execLddr (s : State) : Host.Outcome State Fault Refusal := .next (s.moveRepeat .down)

/-- `CPDR`, rule R235. -/
def execCpdr (s : State) : Host.Outcome State Fault Refusal := .next (s.compareRepeat .down)

end Sys2Proof.Machine
end

