-- ==== Sys2Proof/Machine/Control.lean ====
section
/-! DEFINITION. The meanings of the control transfers (42_control.md, rules R200 to R212), after the operations they
share. None changes a flag. -/

namespace Sys2Proof.Machine

/-- `JP cc,nn` (rule R201). -/
def State.jumpIf (cc : Cond) (nn : Word) (s : State) : State :=
  if s.f.holds cc then s.goto nn else s.advance 3

/-- `(pc + 2 + sext_16(e)) mod 65536` (rule R106). -/
def relativeTarget (pc : Word) (e : Byte) : Word := pc + 2 + e.signExtend 16

/-- `JR e` (rule R203). -/
def State.jumpRelative (e : Byte) (s : State) : State := s.goto (relativeTarget s.pc e)

/-- `JR cc,e` (rule R204). -/
def State.jumpRelativeIf (cc : Cond) (e : Byte) (s : State) : State :=
  if s.f.holds cc then s.jumpRelative e else s.advance 2

/-- `DJNZ e` (rule R205). -/
def State.decrementJump (e : Byte) (s : State) : State :=
  let t : State := { s with b := s.b - 1 }
  if t.b = 0 then t.advance 2 else t.jumpRelative e

/-- `CALL nn` (rule R206). -/
def State.call (nn : Word) (s : State) : State := (s.push16 (s.pc + 3)).goto nn

/-- `CALL cc,nn` (rule R207): not taken, neither `SP` nor memory is touched. -/
def State.callIf (cc : Cond) (nn : Word) (s : State) : State :=
  if s.f.holds cc then s.call nn else s.advance 3

/-- `RET` (rule R208). -/
def State.ret (s : State) : State :=
  let top := s.pop16
  top.2.goto top.1

/-- `RET cc` (rule R209). -/
def State.retIf (cc : Cond) (s : State) : State :=
  if s.f.holds cc then s.ret else s.advance 1

/-- `RST t` (rule R212): the address pushed is `pc + 1` (conflict C4). -/
def State.restart (t : Byte) (s : State) : State := (s.push16 (s.pc + 1)).goto (joinBytes 0 t)

/-! ### The meanings, one per instruction -/

/-- `DJNZ e`, rule R205. -/
def execDjnz_e (e : Byte) (s : State) : Host.Outcome State Fault Refusal := .next (s.decrementJump e)

/-- `JR e`, rule R203. -/
def execJr_e (e : Byte) (s : State) : Host.Outcome State Fault Refusal := .next (s.jumpRelative e)

/-- `JR NZ,e`, rule R204. -/
def execJr_NZ_e (e : Byte) (s : State) : Host.Outcome State Fault Refusal := .next (s.jumpRelativeIf .nz e)

/-- `JR Z,e`, rule R204. -/
def execJr_Z_e (e : Byte) (s : State) : Host.Outcome State Fault Refusal := .next (s.jumpRelativeIf .z e)

/-- `JR NC,e`, rule R204. -/
def execJr_NC_e (e : Byte) (s : State) : Host.Outcome State Fault Refusal := .next (s.jumpRelativeIf .nc e)

/-- `JR C,e`, rule R204. -/
def execJr_C_e (e : Byte) (s : State) : Host.Outcome State Fault Refusal := .next (s.jumpRelativeIf .c e)

/-- `RET NZ`, rule R209. -/
def execRet_NZ (s : State) : Host.Outcome State Fault Refusal := .next (s.retIf .nz)

/-- `JP NZ,nn`, rule R201. -/
def execJp_NZ_nn (nn : Word) (s : State) : Host.Outcome State Fault Refusal := .next (s.jumpIf .nz nn)

/-- `CALL NZ,nn`, rule R207. -/
def execCall_NZ_nn (nn : Word) (s : State) : Host.Outcome State Fault Refusal := .next (s.callIf .nz nn)

/-- `RST $00`, rule R212. -/
def execRst_00 (s : State) : Host.Outcome State Fault Refusal := .next (s.restart 0x00)

/-- `RET Z`, rule R209. -/
def execRet_Z (s : State) : Host.Outcome State Fault Refusal := .next (s.retIf .z)

/-- `JP Z,nn`, rule R201. -/
def execJp_Z_nn (nn : Word) (s : State) : Host.Outcome State Fault Refusal := .next (s.jumpIf .z nn)

/-- `CALL Z,nn`, rule R207. -/
def execCall_Z_nn (nn : Word) (s : State) : Host.Outcome State Fault Refusal := .next (s.callIf .z nn)

/-- `RST $08`, rule R212. -/
def execRst_08 (s : State) : Host.Outcome State Fault Refusal := .next (s.restart 0x08)

/-- `RET NC`, rule R209. -/
def execRet_NC (s : State) : Host.Outcome State Fault Refusal := .next (s.retIf .nc)

/-- `JP NC,nn`, rule R201. -/
def execJp_NC_nn (nn : Word) (s : State) : Host.Outcome State Fault Refusal := .next (s.jumpIf .nc nn)

/-- `CALL NC,nn`, rule R207. -/
def execCall_NC_nn (nn : Word) (s : State) : Host.Outcome State Fault Refusal := .next (s.callIf .nc nn)

/-- `RST $10`, rule R212. -/
def execRst_10 (s : State) : Host.Outcome State Fault Refusal := .next (s.restart 0x10)

/-- `RET C`, rule R209. -/
def execRet_C (s : State) : Host.Outcome State Fault Refusal := .next (s.retIf .c)

/-- `JP C,nn`, rule R201. -/
def execJp_C_nn (nn : Word) (s : State) : Host.Outcome State Fault Refusal := .next (s.jumpIf .c nn)

/-- `CALL C,nn`, rule R207. -/
def execCall_C_nn (nn : Word) (s : State) : Host.Outcome State Fault Refusal := .next (s.callIf .c nn)

/-- `RST $18`, rule R212. -/
def execRst_18 (s : State) : Host.Outcome State Fault Refusal := .next (s.restart 0x18)

/-- `RET PO`, rule R209. -/
def execRet_PO (s : State) : Host.Outcome State Fault Refusal := .next (s.retIf .po)

/-- `JP PO,nn`, rule R201. -/
def execJp_PO_nn (nn : Word) (s : State) : Host.Outcome State Fault Refusal := .next (s.jumpIf .po nn)

/-- `CALL PO,nn`, rule R207. -/
def execCall_PO_nn (nn : Word) (s : State) : Host.Outcome State Fault Refusal := .next (s.callIf .po nn)

/-- `RST $20`, rule R212. -/
def execRst_20 (s : State) : Host.Outcome State Fault Refusal := .next (s.restart 0x20)

/-- `RET PE`, rule R209. -/
def execRet_PE (s : State) : Host.Outcome State Fault Refusal := .next (s.retIf .pe)

/-- `JP PE,nn`, rule R201. -/
def execJp_PE_nn (nn : Word) (s : State) : Host.Outcome State Fault Refusal := .next (s.jumpIf .pe nn)

/-- `CALL PE,nn`, rule R207. -/
def execCall_PE_nn (nn : Word) (s : State) : Host.Outcome State Fault Refusal := .next (s.callIf .pe nn)

/-- `RST $28`, rule R212. -/
def execRst_28 (s : State) : Host.Outcome State Fault Refusal := .next (s.restart 0x28)

/-- `RET P`, rule R209. -/
def execRet_P (s : State) : Host.Outcome State Fault Refusal := .next (s.retIf .p)

/-- `JP P,nn`, rule R201. -/
def execJp_P_nn (nn : Word) (s : State) : Host.Outcome State Fault Refusal := .next (s.jumpIf .p nn)

/-- `CALL P,nn`, rule R207. -/
def execCall_P_nn (nn : Word) (s : State) : Host.Outcome State Fault Refusal := .next (s.callIf .p nn)

/-- `RST $30`, rule R212. -/
def execRst_30 (s : State) : Host.Outcome State Fault Refusal := .next (s.restart 0x30)

/-- `RET M`, rule R209. -/
def execRet_M (s : State) : Host.Outcome State Fault Refusal := .next (s.retIf .m)

/-- `JP M,nn`, rule R201. -/
def execJp_M_nn (nn : Word) (s : State) : Host.Outcome State Fault Refusal := .next (s.jumpIf .m nn)

/-- `CALL M,nn`, rule R207. -/
def execCall_M_nn (nn : Word) (s : State) : Host.Outcome State Fault Refusal := .next (s.callIf .m nn)

/-- `RST $38`, rule R212. -/
def execRst_38 (s : State) : Host.Outcome State Fault Refusal := .next (s.restart 0x38)

/-- `RET`, rule R208. -/
def execRet (s : State) : Host.Outcome State Fault Refusal := .next (s.ret)

/-- `JP (HL)`, rule R202. -/
def execJp_HL (s : State) : Host.Outcome State Fault Refusal := .next (s.goto s.hl)

/-- `JP nn`, rule R200. -/
def execJp_nn (nn : Word) (s : State) : Host.Outcome State Fault Refusal := .next (s.goto nn)

/-- `CALL nn`, rule R206. -/
def execCall_nn (nn : Word) (s : State) : Host.Outcome State Fault Refusal := .next (s.call nn)

/-- `RETN`, rule R211. -/
def execRetn (s : State) : Host.Outcome State Fault Refusal := .next (s.returnFromInterrupt)

/-- `RETI`, rule R210. -/
def execReti (s : State) : Host.Outcome State Fault Refusal := .next (s.returnFromInterrupt)

/-- `JP (IX)`, rule R202. -/
def execJp_IX (s : State) : Host.Outcome State Fault Refusal := .next (s.goto s.ix)

/-- `JP (IY)`, rule R202. -/
def execJp_IY (s : State) : Host.Outcome State Fault Refusal := .next (s.goto s.iy)

end Sys2Proof.Machine
end

