-- ==== Sys2Proof/Machine/ExchangeStack.lean ====
section
/-! DEFINITION. The meanings of `EX`, `EXX`, `PUSH` and `POP` (45_exchange_stack.md, rules R260 to R269), after the
operations they share. -/

namespace Sys2Proof.Machine

/-- `EX AF,AF'` (rule R260): all eight bits of `F` and `F'` change places. -/
def State.exchangeAF (s : State) : State :=
  State.advance 1 { s with a := s.aShadow, f := s.fShadow, aShadow := s.a, fShadow := s.f }

/-- `EX DE,HL` (rule R261). -/
def State.exchangeDEHL (s : State) : State :=
  State.advance 1 { s with d := s.h, e := s.l, h := s.d, l := s.e }

/-- `EXX` (rule R264). -/
def State.exchangeShadow (s : State) : State :=
  State.advance 1
    { s with
      b := s.bShadow
      c := s.cShadow
      d := s.dShadow
      e := s.eShadow
      h := s.hShadow
      l := s.lShadow
      bShadow := s.b
      cShadow := s.c
      dShadow := s.d
      eShadow := s.e
      hShadow := s.h
      lShadow := s.l }

/-- `EX (SP),HL`, `EX (SP),IX`, `EX (SP),IY` (rules R262, R263): the word is read low byte first and written high
byte first (rule R66); `SP` stays. -/
def State.exchangeTop (r : Reg16) (len : Nat) (s : State) : State :=
  let top := s.readWord s.sp
  ((top.2.writeWordHighFirst s.sp (s.reg16 r)).setReg16 r top.1).advance len

/-- `PUSH qq` (rule R268). -/
def State.push (r : Reg16) (len : Nat) (s : State) : State := (s.push16 (s.reg16 r)).advance len

/-- `POP qq` (rule R269). -/
def State.pop (r : Reg16) (len : Nat) (s : State) : State :=
  let top := s.pop16
  (top.2.setReg16 r top.1).advance len

/-! ### The meanings, one per instruction -/

/-- `EX AF,AF'`, rule R260. -/
def execEx_AF_AFshadow (s : State) : Host.Outcome State Fault Refusal := .next (s.exchangeAF)

/-- `POP BC`, rule R269. -/
def execPop_BC (s : State) : Host.Outcome State Fault Refusal := .next (s.pop .bc 1)

/-- `PUSH BC`, rule R268. -/
def execPush_BC (s : State) : Host.Outcome State Fault Refusal := .next (s.push .bc 1)

/-- `POP DE`, rule R269. -/
def execPop_DE (s : State) : Host.Outcome State Fault Refusal := .next (s.pop .de 1)

/-- `PUSH DE`, rule R268. -/
def execPush_DE (s : State) : Host.Outcome State Fault Refusal := .next (s.push .de 1)

/-- `POP HL`, rule R269. -/
def execPop_HL (s : State) : Host.Outcome State Fault Refusal := .next (s.pop .hl 1)

/-- `PUSH HL`, rule R268. -/
def execPush_HL (s : State) : Host.Outcome State Fault Refusal := .next (s.push .hl 1)

/-- `POP AF`, rule R269. -/
def execPop_AF (s : State) : Host.Outcome State Fault Refusal := .next (s.pop .af 1)

/-- `PUSH AF`, rule R268. -/
def execPush_AF (s : State) : Host.Outcome State Fault Refusal := .next (s.push .af 1)

/-- `EXX`, rule R264. -/
def execExx (s : State) : Host.Outcome State Fault Refusal := .next (s.exchangeShadow)

/-- `EX (SP),HL`, rule R262. -/
def execEx_atSP_HL (s : State) : Host.Outcome State Fault Refusal := .next (s.exchangeTop .hl 1)

/-- `EX DE,HL`, rule R261. -/
def execEx_DE_HL (s : State) : Host.Outcome State Fault Refusal := .next (s.exchangeDEHL)

/-- `POP IX`, rule R269. -/
def execPop_IX (s : State) : Host.Outcome State Fault Refusal := .next (s.pop .ix 2)

/-- `PUSH IX`, rule R268. -/
def execPush_IX (s : State) : Host.Outcome State Fault Refusal := .next (s.push .ix 2)

/-- `EX (SP),IX`, rule R263. -/
def execEx_atSP_IX (s : State) : Host.Outcome State Fault Refusal := .next (s.exchangeTop .ix 2)

/-- `POP IY`, rule R269. -/
def execPop_IY (s : State) : Host.Outcome State Fault Refusal := .next (s.pop .iy 2)

/-- `PUSH IY`, rule R268. -/
def execPush_IY (s : State) : Host.Outcome State Fault Refusal := .next (s.push .iy 2)

/-- `EX (SP),IY`, rule R263. -/
def execEx_atSP_IY (s : State) : Host.Outcome State Fault Refusal := .next (s.exchangeTop .iy 2)

end Sys2Proof.Machine
end

