-- ==== Sys2Proof/Machine/InputOutput.lean ====
section
/-! DEFINITION. The meanings of the input and output instructions (46_io.md, rules R280 to R297), after the
operations they share. A port address is 16 bits: `A ++ n` or `B ++ C` (rule R64). -/

namespace Sys2Proof.Machine

/-- `IN A,(n)` (rule R280): the port's high byte is `A` before the load; no flag. -/
def State.inAImm (n : Byte) (s : State) : State :=
  let v := s.ioRead (joinBytes s.a n)
  State.advance 2 { v.2 with a := v.1 }

/-- `IN r,(C)` (rule R281): the port is `BC` before the load; `H` is reset (decision D28). -/
def State.inReg (r : Reg8) (s : State) : State :=
  let v := s.ioRead s.bc
  ((v.2.setReg8 r v.1).writeFlags (szpFlags v.1 false)).advance 2

/-- `IN (C)` (rule R282): the port is read and the flags written, no register. -/
def State.inFlags (s : State) : State :=
  let v := s.ioRead s.bc
  (v.2.writeFlags (szpFlags v.1 false)).advance 2

/-- `OUT (n),A` (rule R290). -/
def State.outImm (n : Byte) (s : State) : State := (s.ioWrite (joinBytes s.a n) s.a).advance 2

/-- `OUT (C),r` and `OUT (C),0` (rules R291, R293). -/
def State.outPort (v : Byte) (s : State) : State := (s.ioWrite s.bc v).advance 2

/-- `N` after a block input or output as the source gives it: reset going up, set going down (rules R283, R284, R294,
R295; log entry 9). -/
def Direction.blockIoN : Direction → Bool
  | .up => false
  | .down => true

/-- The flags of a block input or output (rules R283, R294): `Z` tells whether `B` has reached 0; `S`, `H` and `P/V`
are free; `C` stays. -/
def blockIoFlags (dir : Direction) (done : Bool) : FlagUpdate := fun old free =>
  { old with z := done, n := dir.blockIoN, s := free.s, h := free.h, pv := free.pv }

/-- `INI` and `IND` but for the final move of `PC` (rules R283, R284): the port's high byte is `B` before its
decrement. -/
def State.inputStep (dir : Direction) (s : State) : State :=
  let v := s.ioRead s.bc
  State.writeFlags (blockIoFlags dir (s.b - 1 == 0))
    { (v.2.writeByte s.hl v.1).setHL (dir.move s.hl) with b := s.b - 1 }

/-- `OUTI` and `OUTD` but for the final move of `PC` (rules R294, R295): the port's high byte is `B` after its
decrement. -/
def State.outputStep (dir : Direction) (s : State) : State :=
  let v := s.readByte s.hl
  let t : State := { v.2 with b := s.b - 1 }
  ((t.ioWrite t.bc v.1).setHL (dir.move s.hl)).writeFlags (blockIoFlags dir (t.b == 0))

/-- `INIR` and `INDR`, one iteration (rules R285, R286): done when `B` has reached 0. -/
def State.inputRepeat (dir : Direction) (s : State) : State :=
  let t := s.inputStep dir
  t.endIteration (t.b == 0)

/-- `OTIR` and `OTDR`, one iteration (rules R296, R297): done when `B` has reached 0. -/
def State.outputRepeat (dir : Direction) (s : State) : State :=
  let t := s.outputStep dir
  t.endIteration (t.b == 0)

/-! ### The meanings, one per instruction -/

/-- `OUT (n),A`, rule R290. -/
def execOut_atN_A (n : Byte) (s : State) : Host.Outcome State Fault Refusal := .next (s.outImm n)

/-- `IN A,(n)`, rule R280. -/
def execIn_A_atN (n : Byte) (s : State) : Host.Outcome State Fault Refusal := .next (s.inAImm n)

/-- `IN B,(C)`, rule R281. -/
def execIn_B_atC (s : State) : Host.Outcome State Fault Refusal := .next (s.inReg .b)

/-- `OUT (C),B`, rule R291. -/
def execOut_atC_B (s : State) : Host.Outcome State Fault Refusal := .next (s.outPort s.b)

/-- `IN C,(C)`, rule R281. -/
def execIn_C_atC (s : State) : Host.Outcome State Fault Refusal := .next (s.inReg .c)

/-- `OUT (C),C`, rule R291. -/
def execOut_atC_C (s : State) : Host.Outcome State Fault Refusal := .next (s.outPort s.c)

/-- `IN D,(C)`, rule R281. -/
def execIn_D_atC (s : State) : Host.Outcome State Fault Refusal := .next (s.inReg .d)

/-- `OUT (C),D`, rule R291. -/
def execOut_atC_D (s : State) : Host.Outcome State Fault Refusal := .next (s.outPort s.d)

/-- `IN E,(C)`, rule R281. -/
def execIn_E_atC (s : State) : Host.Outcome State Fault Refusal := .next (s.inReg .e)

/-- `OUT (C),E`, rule R291. -/
def execOut_atC_E (s : State) : Host.Outcome State Fault Refusal := .next (s.outPort s.e)

/-- `IN H,(C)`, rule R281. -/
def execIn_H_atC (s : State) : Host.Outcome State Fault Refusal := .next (s.inReg .h)

/-- `OUT (C),H`, rule R291. -/
def execOut_atC_H (s : State) : Host.Outcome State Fault Refusal := .next (s.outPort s.h)

/-- `IN L,(C)`, rule R281. -/
def execIn_L_atC (s : State) : Host.Outcome State Fault Refusal := .next (s.inReg .l)

/-- `OUT (C),L`, rule R291. -/
def execOut_atC_L (s : State) : Host.Outcome State Fault Refusal := .next (s.outPort s.l)

/-- `IN (C)`, rule R282. -/
def execIn_atC (s : State) : Host.Outcome State Fault Refusal := .next (s.inFlags)

/-- `OUT (C),0`, rule R293. -/
def execOut_atC_0 (s : State) : Host.Outcome State Fault Refusal := .next (s.outPort Config.outC0Value)

/-- `IN A,(C)`, rule R281. -/
def execIn_A_atC (s : State) : Host.Outcome State Fault Refusal := .next (s.inReg .a)

/-- `OUT (C),A`, rule R291. -/
def execOut_atC_A (s : State) : Host.Outcome State Fault Refusal := .next (s.outPort s.a)

/-- `INI`, rule R283. -/
def execIni (s : State) : Host.Outcome State Fault Refusal := .next ((s.inputStep .up).advance 2)

/-- `OUTI`, rule R294. -/
def execOuti (s : State) : Host.Outcome State Fault Refusal := .next ((s.outputStep .up).advance 2)

/-- `IND`, rule R284. -/
def execInd (s : State) : Host.Outcome State Fault Refusal := .next ((s.inputStep .down).advance 2)

/-- `OUTD`, rule R295. -/
def execOutd (s : State) : Host.Outcome State Fault Refusal := .next ((s.outputStep .down).advance 2)

/-- `INIR`, rule R285. -/
def execInir (s : State) : Host.Outcome State Fault Refusal := .next (s.inputRepeat .up)

/-- `OTIR`, rule R296. -/
def execOtir (s : State) : Host.Outcome State Fault Refusal := .next (s.outputRepeat .up)

/-- `INDR`, rule R286. -/
def execIndr (s : State) : Host.Outcome State Fault Refusal := .next (s.inputRepeat .down)

/-- `OTDR`, rule R297. -/
def execOtdr (s : State) : Host.Outcome State Fault Refusal := .next (s.outputRepeat .down)

end Sys2Proof.Machine
end

