-- ==== Sys2Proof/Machine/Load.lean ====
section
/-! DEFINITION. The meanings of `LD` (47_load.md, rules R310 to R334), after the operations they share. Only
`LD A,I` and `LD A,R` write flags. -/

namespace Sys2Proof.Machine

/-- `LD dst,src` between 8-bit registers and index halves (rule R310). -/
def State.ldReg (dst src : Reg8) (len : Nat) (s : State) : State :=
  (s.setReg8 dst (s.reg8 src)).advance len

/-- `LD dst,n` (rule R311). -/
def State.ldImm (dst : Reg8) (n : Byte) (len : Nat) (s : State) : State :=
  (s.setReg8 dst n).advance len

/-- A byte load from an address (rules R312, R315, R316): the address is the one before the load. -/
def State.ldFromMem (dst : Reg8) (addr : Word) (len : Nat) (s : State) : State :=
  let got := s.readByte addr
  (got.2.setReg8 dst got.1).advance len

/-- A byte store to an address (rules R313, R314, R317, R318). -/
def State.ldToMem (addr : Word) (v : Byte) (len : Nat) (s : State) : State :=
  (s.writeByte addr v).advance len

/-- A 16-bit register takes a value (rules R319, R322). -/
def State.ldWord (dst : Reg16) (w : Word) (len : Nat) (s : State) : State :=
  (s.setReg16 dst w).advance len

/-- A 16-bit register takes the word at an address (rule R320). -/
def State.ldWordFromMem (dst : Reg16) (addr : Word) (len : Nat) (s : State) : State :=
  let got := s.readWord addr
  (got.2.setReg16 dst got.1).advance len

/-- The word at an address takes a value, low byte first (rule R321). -/
def State.ldWordToMem (addr w : Word) (len : Nat) (s : State) : State :=
  (s.writeWord addr w).advance len

/-- The flags of `LD A,I` and `LD A,R` (rules R330, R331): of the byte loaded, with `P/V` the interrupt enable. -/
def ldControlFlags (v : Byte) (enabled : Bool) : FlagUpdate := fun old _ =>
  { old with s := v.msb, z := v == 0, h := false, n := false, pv := enabled }

/-- `A` takes `I` or `R` and the flags tell of it (rules R330, R331); `P/V` is `IFF2`. -/
def State.ldControl (v : Byte) (s : State) : State :=
  (State.writeFlags (ldControlFlags v s.iff2) { s with a := v }).advance 2

/-! ### The meanings, one per instruction -/

/-- `LD BC,nn`, rule R319. -/
def execLd_BC_nn (nn : Word) (s : State) : Host.Outcome State Fault Refusal := .next (s.ldWord .bc nn 3)

/-- `LD DE,nn`, rule R319. -/
def execLd_DE_nn (nn : Word) (s : State) : Host.Outcome State Fault Refusal := .next (s.ldWord .de nn 3)

/-- `LD HL,nn`, rule R319. -/
def execLd_HL_nn (nn : Word) (s : State) : Host.Outcome State Fault Refusal := .next (s.ldWord .hl nn 3)

/-- `LD SP,nn`, rule R319. -/
def execLd_SP_nn (nn : Word) (s : State) : Host.Outcome State Fault Refusal := .next (s.ldWord .sp nn 3)

/-- `LD (BC),A`, rule R317. -/
def execLd_atBC_A (s : State) : Host.Outcome State Fault Refusal := .next (s.ldToMem s.bc s.a 1)

/-- `LD (DE),A`, rule R317. -/
def execLd_atDE_A (s : State) : Host.Outcome State Fault Refusal := .next (s.ldToMem s.de s.a 1)

/-- `LD (nn),HL`, rule R321. -/
def execLd_atNn_HL (nn : Word) (s : State) : Host.Outcome State Fault Refusal := .next (s.ldWordToMem nn s.hl 3)

/-- `LD (nn),A`, rule R318. -/
def execLd_atNn_A (nn : Word) (s : State) : Host.Outcome State Fault Refusal := .next (s.ldToMem nn s.a 3)

/-- `LD A,(BC)`, rule R315. -/
def execLd_A_atBC (s : State) : Host.Outcome State Fault Refusal := .next (s.ldFromMem .a s.bc 1)

/-- `LD A,(DE)`, rule R315. -/
def execLd_A_atDE (s : State) : Host.Outcome State Fault Refusal := .next (s.ldFromMem .a s.de 1)

/-- `LD HL,(nn)`, rule R320. -/
def execLd_HL_atNn (nn : Word) (s : State) : Host.Outcome State Fault Refusal := .next (s.ldWordFromMem .hl nn 3)

/-- `LD A,(nn)`, rule R316. -/
def execLd_A_atNn (nn : Word) (s : State) : Host.Outcome State Fault Refusal := .next (s.ldFromMem .a nn 3)

/-- `LD B,n`, rule R311. -/
def execLd_B_n (n : Byte) (s : State) : Host.Outcome State Fault Refusal := .next (s.ldImm .b n 2)

/-- `LD C,n`, rule R311. -/
def execLd_C_n (n : Byte) (s : State) : Host.Outcome State Fault Refusal := .next (s.ldImm .c n 2)

/-- `LD D,n`, rule R311. -/
def execLd_D_n (n : Byte) (s : State) : Host.Outcome State Fault Refusal := .next (s.ldImm .d n 2)

/-- `LD E,n`, rule R311. -/
def execLd_E_n (n : Byte) (s : State) : Host.Outcome State Fault Refusal := .next (s.ldImm .e n 2)

/-- `LD H,n`, rule R311. -/
def execLd_H_n (n : Byte) (s : State) : Host.Outcome State Fault Refusal := .next (s.ldImm .h n 2)

/-- `LD L,n`, rule R311. -/
def execLd_L_n (n : Byte) (s : State) : Host.Outcome State Fault Refusal := .next (s.ldImm .l n 2)

/-- `LD (HL),n`, rule R314. -/
def execLd_atHL_n (n : Byte) (s : State) : Host.Outcome State Fault Refusal := .next (s.ldToMem s.hl n 2)

/-- `LD A,n`, rule R311. -/
def execLd_A_n (n : Byte) (s : State) : Host.Outcome State Fault Refusal := .next (s.ldImm .a n 2)

/-- `LD B,B`, rule R310. -/
def execLd_B_B (s : State) : Host.Outcome State Fault Refusal := .next (s.ldReg .b .b 1)

/-- `LD B,C`, rule R310. -/
def execLd_B_C (s : State) : Host.Outcome State Fault Refusal := .next (s.ldReg .b .c 1)

/-- `LD B,D`, rule R310. -/
def execLd_B_D (s : State) : Host.Outcome State Fault Refusal := .next (s.ldReg .b .d 1)

/-- `LD B,E`, rule R310. -/
def execLd_B_E (s : State) : Host.Outcome State Fault Refusal := .next (s.ldReg .b .e 1)

/-- `LD B,H`, rule R310. -/
def execLd_B_H (s : State) : Host.Outcome State Fault Refusal := .next (s.ldReg .b .h 1)

/-- `LD B,L`, rule R310. -/
def execLd_B_L (s : State) : Host.Outcome State Fault Refusal := .next (s.ldReg .b .l 1)

/-- `LD B,(HL)`, rule R312. -/
def execLd_B_atHL (s : State) : Host.Outcome State Fault Refusal := .next (s.ldFromMem .b s.hl 1)

/-- `LD B,A`, rule R310. -/
def execLd_B_A (s : State) : Host.Outcome State Fault Refusal := .next (s.ldReg .b .a 1)

/-- `LD C,B`, rule R310. -/
def execLd_C_B (s : State) : Host.Outcome State Fault Refusal := .next (s.ldReg .c .b 1)

/-- `LD C,C`, rule R310. -/
def execLd_C_C (s : State) : Host.Outcome State Fault Refusal := .next (s.ldReg .c .c 1)

/-- `LD C,D`, rule R310. -/
def execLd_C_D (s : State) : Host.Outcome State Fault Refusal := .next (s.ldReg .c .d 1)

/-- `LD C,E`, rule R310. -/
def execLd_C_E (s : State) : Host.Outcome State Fault Refusal := .next (s.ldReg .c .e 1)

/-- `LD C,H`, rule R310. -/
def execLd_C_H (s : State) : Host.Outcome State Fault Refusal := .next (s.ldReg .c .h 1)

/-- `LD C,L`, rule R310. -/
def execLd_C_L (s : State) : Host.Outcome State Fault Refusal := .next (s.ldReg .c .l 1)

/-- `LD C,(HL)`, rule R312. -/
def execLd_C_atHL (s : State) : Host.Outcome State Fault Refusal := .next (s.ldFromMem .c s.hl 1)

/-- `LD C,A`, rule R310. -/
def execLd_C_A (s : State) : Host.Outcome State Fault Refusal := .next (s.ldReg .c .a 1)

/-- `LD D,B`, rule R310. -/
def execLd_D_B (s : State) : Host.Outcome State Fault Refusal := .next (s.ldReg .d .b 1)

/-- `LD D,C`, rule R310. -/
def execLd_D_C (s : State) : Host.Outcome State Fault Refusal := .next (s.ldReg .d .c 1)

/-- `LD D,D`, rule R310. -/
def execLd_D_D (s : State) : Host.Outcome State Fault Refusal := .next (s.ldReg .d .d 1)

/-- `LD D,E`, rule R310. -/
def execLd_D_E (s : State) : Host.Outcome State Fault Refusal := .next (s.ldReg .d .e 1)

/-- `LD D,H`, rule R310. -/
def execLd_D_H (s : State) : Host.Outcome State Fault Refusal := .next (s.ldReg .d .h 1)

/-- `LD D,L`, rule R310. -/
def execLd_D_L (s : State) : Host.Outcome State Fault Refusal := .next (s.ldReg .d .l 1)

/-- `LD D,(HL)`, rule R312. -/
def execLd_D_atHL (s : State) : Host.Outcome State Fault Refusal := .next (s.ldFromMem .d s.hl 1)

/-- `LD D,A`, rule R310. -/
def execLd_D_A (s : State) : Host.Outcome State Fault Refusal := .next (s.ldReg .d .a 1)

/-- `LD E,B`, rule R310. -/
def execLd_E_B (s : State) : Host.Outcome State Fault Refusal := .next (s.ldReg .e .b 1)

/-- `LD E,C`, rule R310. -/
def execLd_E_C (s : State) : Host.Outcome State Fault Refusal := .next (s.ldReg .e .c 1)

/-- `LD E,D`, rule R310. -/
def execLd_E_D (s : State) : Host.Outcome State Fault Refusal := .next (s.ldReg .e .d 1)

/-- `LD E,E`, rule R310. -/
def execLd_E_E (s : State) : Host.Outcome State Fault Refusal := .next (s.ldReg .e .e 1)

/-- `LD E,H`, rule R310. -/
def execLd_E_H (s : State) : Host.Outcome State Fault Refusal := .next (s.ldReg .e .h 1)

/-- `LD E,L`, rule R310. -/
def execLd_E_L (s : State) : Host.Outcome State Fault Refusal := .next (s.ldReg .e .l 1)

/-- `LD E,(HL)`, rule R312. -/
def execLd_E_atHL (s : State) : Host.Outcome State Fault Refusal := .next (s.ldFromMem .e s.hl 1)

/-- `LD E,A`, rule R310. -/
def execLd_E_A (s : State) : Host.Outcome State Fault Refusal := .next (s.ldReg .e .a 1)

/-- `LD H,B`, rule R310. -/
def execLd_H_B (s : State) : Host.Outcome State Fault Refusal := .next (s.ldReg .h .b 1)

/-- `LD H,C`, rule R310. -/
def execLd_H_C (s : State) : Host.Outcome State Fault Refusal := .next (s.ldReg .h .c 1)

/-- `LD H,D`, rule R310. -/
def execLd_H_D (s : State) : Host.Outcome State Fault Refusal := .next (s.ldReg .h .d 1)

/-- `LD H,E`, rule R310. -/
def execLd_H_E (s : State) : Host.Outcome State Fault Refusal := .next (s.ldReg .h .e 1)

/-- `LD H,H`, rule R310. -/
def execLd_H_H (s : State) : Host.Outcome State Fault Refusal := .next (s.ldReg .h .h 1)

/-- `LD H,L`, rule R310. -/
def execLd_H_L (s : State) : Host.Outcome State Fault Refusal := .next (s.ldReg .h .l 1)

/-- `LD H,(HL)`, rule R312. -/
def execLd_H_atHL (s : State) : Host.Outcome State Fault Refusal := .next (s.ldFromMem .h s.hl 1)

/-- `LD H,A`, rule R310. -/
def execLd_H_A (s : State) : Host.Outcome State Fault Refusal := .next (s.ldReg .h .a 1)

/-- `LD L,B`, rule R310. -/
def execLd_L_B (s : State) : Host.Outcome State Fault Refusal := .next (s.ldReg .l .b 1)

/-- `LD L,C`, rule R310. -/
def execLd_L_C (s : State) : Host.Outcome State Fault Refusal := .next (s.ldReg .l .c 1)

/-- `LD L,D`, rule R310. -/
def execLd_L_D (s : State) : Host.Outcome State Fault Refusal := .next (s.ldReg .l .d 1)

/-- `LD L,E`, rule R310. -/
def execLd_L_E (s : State) : Host.Outcome State Fault Refusal := .next (s.ldReg .l .e 1)

/-- `LD L,H`, rule R310. -/
def execLd_L_H (s : State) : Host.Outcome State Fault Refusal := .next (s.ldReg .l .h 1)

/-- `LD L,L`, rule R310. -/
def execLd_L_L (s : State) : Host.Outcome State Fault Refusal := .next (s.ldReg .l .l 1)

/-- `LD L,(HL)`, rule R312. -/
def execLd_L_atHL (s : State) : Host.Outcome State Fault Refusal := .next (s.ldFromMem .l s.hl 1)

/-- `LD L,A`, rule R310. -/
def execLd_L_A (s : State) : Host.Outcome State Fault Refusal := .next (s.ldReg .l .a 1)

/-- `LD (HL),B`, rule R313. -/
def execLd_atHL_B (s : State) : Host.Outcome State Fault Refusal := .next (s.ldToMem s.hl s.b 1)

/-- `LD (HL),C`, rule R313. -/
def execLd_atHL_C (s : State) : Host.Outcome State Fault Refusal := .next (s.ldToMem s.hl s.c 1)

/-- `LD (HL),D`, rule R313. -/
def execLd_atHL_D (s : State) : Host.Outcome State Fault Refusal := .next (s.ldToMem s.hl s.d 1)

/-- `LD (HL),E`, rule R313. -/
def execLd_atHL_E (s : State) : Host.Outcome State Fault Refusal := .next (s.ldToMem s.hl s.e 1)

/-- `LD (HL),H`, rule R313. -/
def execLd_atHL_H (s : State) : Host.Outcome State Fault Refusal := .next (s.ldToMem s.hl s.h 1)

/-- `LD (HL),L`, rule R313. -/
def execLd_atHL_L (s : State) : Host.Outcome State Fault Refusal := .next (s.ldToMem s.hl s.l 1)

/-- `LD (HL),A`, rule R313. -/
def execLd_atHL_A (s : State) : Host.Outcome State Fault Refusal := .next (s.ldToMem s.hl s.a 1)

/-- `LD A,B`, rule R310. -/
def execLd_A_B (s : State) : Host.Outcome State Fault Refusal := .next (s.ldReg .a .b 1)

/-- `LD A,C`, rule R310. -/
def execLd_A_C (s : State) : Host.Outcome State Fault Refusal := .next (s.ldReg .a .c 1)

/-- `LD A,D`, rule R310. -/
def execLd_A_D (s : State) : Host.Outcome State Fault Refusal := .next (s.ldReg .a .d 1)

/-- `LD A,E`, rule R310. -/
def execLd_A_E (s : State) : Host.Outcome State Fault Refusal := .next (s.ldReg .a .e 1)

/-- `LD A,H`, rule R310. -/
def execLd_A_H (s : State) : Host.Outcome State Fault Refusal := .next (s.ldReg .a .h 1)

/-- `LD A,L`, rule R310. -/
def execLd_A_L (s : State) : Host.Outcome State Fault Refusal := .next (s.ldReg .a .l 1)

/-- `LD A,(HL)`, rule R312. -/
def execLd_A_atHL (s : State) : Host.Outcome State Fault Refusal := .next (s.ldFromMem .a s.hl 1)

/-- `LD A,A`, rule R310. -/
def execLd_A_A (s : State) : Host.Outcome State Fault Refusal := .next (s.ldReg .a .a 1)

/-- `LD SP,HL`, rule R322. -/
def execLd_SP_HL (s : State) : Host.Outcome State Fault Refusal := .next (s.ldWord .sp s.hl 1)

/-- `LD (nn),BC`, rule R321. -/
def execLd_atNn_BC (nn : Word) (s : State) : Host.Outcome State Fault Refusal := .next (s.ldWordToMem nn s.bc 4)

/-- `LD BC,(nn)`, rule R320. -/
def execLd_BC_atNn (nn : Word) (s : State) : Host.Outcome State Fault Refusal := .next (s.ldWordFromMem .bc nn 4)

/-- `LD (nn),DE`, rule R321. -/
def execLd_atNn_DE (nn : Word) (s : State) : Host.Outcome State Fault Refusal := .next (s.ldWordToMem nn s.de 4)

/-- `LD DE,(nn)`, rule R320. -/
def execLd_DE_atNn (nn : Word) (s : State) : Host.Outcome State Fault Refusal := .next (s.ldWordFromMem .de nn 4)

/-- `LD (nn),HL` (the long form, rule R114), rule R321. -/
def execLd_atNn_HL_ed (nn : Word) (s : State) : Host.Outcome State Fault Refusal := .next (s.ldWordToMem nn s.hl 4)

/-- `LD HL,(nn)` (the long form, rule R114), rule R320. -/
def execLd_HL_atNn_ed (nn : Word) (s : State) : Host.Outcome State Fault Refusal := .next (s.ldWordFromMem .hl nn 4)

/-- `LD (nn),SP`, rule R321. -/
def execLd_atNn_SP (nn : Word) (s : State) : Host.Outcome State Fault Refusal := .next (s.ldWordToMem nn s.sp 4)

/-- `LD SP,(nn)`, rule R320. -/
def execLd_SP_atNn (nn : Word) (s : State) : Host.Outcome State Fault Refusal := .next (s.ldWordFromMem .sp nn 4)

/-- `LD I,A`, rule R332. -/
def execLd_I_A (s : State) : Host.Outcome State Fault Refusal := .next (State.advance 2 { s with i := s.a })

/-- `LD R,A`, rule R333. -/
def execLd_R_A (s : State) : Host.Outcome State Fault Refusal := .next (State.advance 2 { s with r := s.a })

/-- `LD A,I`, rule R330. -/
def execLd_A_I (s : State) : Host.Outcome State Fault Refusal := .next (s.ldControl s.i)

/-- `LD A,R`, rule R331. -/
def execLd_A_R (s : State) : Host.Outcome State Fault Refusal := .next (s.ldControl s.r)

/-- `LD IX,nn`, rule R319. -/
def execLd_IX_nn (nn : Word) (s : State) : Host.Outcome State Fault Refusal := .next (s.ldWord .ix nn 4)

/-- `LD (nn),IX`, rule R321. -/
def execLd_atNn_IX (nn : Word) (s : State) : Host.Outcome State Fault Refusal := .next (s.ldWordToMem nn s.ix 4)

/-- `LD IX,(nn)`, rule R320. -/
def execLd_IX_atNn (nn : Word) (s : State) : Host.Outcome State Fault Refusal := .next (s.ldWordFromMem .ix nn 4)

/-- `LD IXH,n`, rule R311. -/
def execLd_IXH_n (n : Byte) (s : State) : Host.Outcome State Fault Refusal := .next (s.ldImm .ixh n 3)

/-- `LD IXL,n`, rule R311. -/
def execLd_IXL_n (n : Byte) (s : State) : Host.Outcome State Fault Refusal := .next (s.ldImm .ixl n 3)

/-- `LD (IX+d),n`, rule R314. -/
def execLd_atIXd_n (d : Byte) (n : Byte) (s : State) : Host.Outcome State Fault Refusal := .next (s.ldToMem (displaced s.ix d) n 4)

/-- `LD B,IXH`, rule R310. -/
def execLd_B_IXH (s : State) : Host.Outcome State Fault Refusal := .next (s.ldReg .b .ixh 2)

/-- `LD B,IXL`, rule R310. -/
def execLd_B_IXL (s : State) : Host.Outcome State Fault Refusal := .next (s.ldReg .b .ixl 2)

/-- `LD B,(IX+d)`, rule R312. -/
def execLd_B_atIXd (d : Byte) (s : State) : Host.Outcome State Fault Refusal := .next (s.ldFromMem .b (displaced s.ix d) 3)

/-- `LD C,IXH`, rule R310. -/
def execLd_C_IXH (s : State) : Host.Outcome State Fault Refusal := .next (s.ldReg .c .ixh 2)

/-- `LD C,IXL`, rule R310. -/
def execLd_C_IXL (s : State) : Host.Outcome State Fault Refusal := .next (s.ldReg .c .ixl 2)

/-- `LD C,(IX+d)`, rule R312. -/
def execLd_C_atIXd (d : Byte) (s : State) : Host.Outcome State Fault Refusal := .next (s.ldFromMem .c (displaced s.ix d) 3)

/-- `LD D,IXH`, rule R310. -/
def execLd_D_IXH (s : State) : Host.Outcome State Fault Refusal := .next (s.ldReg .d .ixh 2)

/-- `LD D,IXL`, rule R310. -/
def execLd_D_IXL (s : State) : Host.Outcome State Fault Refusal := .next (s.ldReg .d .ixl 2)

/-- `LD D,(IX+d)`, rule R312. -/
def execLd_D_atIXd (d : Byte) (s : State) : Host.Outcome State Fault Refusal := .next (s.ldFromMem .d (displaced s.ix d) 3)

/-- `LD E,IXH`, rule R310. -/
def execLd_E_IXH (s : State) : Host.Outcome State Fault Refusal := .next (s.ldReg .e .ixh 2)

/-- `LD E,IXL`, rule R310. -/
def execLd_E_IXL (s : State) : Host.Outcome State Fault Refusal := .next (s.ldReg .e .ixl 2)

/-- `LD E,(IX+d)`, rule R312. -/
def execLd_E_atIXd (d : Byte) (s : State) : Host.Outcome State Fault Refusal := .next (s.ldFromMem .e (displaced s.ix d) 3)

/-- `LD IXH,B`, rule R310. -/
def execLd_IXH_B (s : State) : Host.Outcome State Fault Refusal := .next (s.ldReg .ixh .b 2)

/-- `LD IXH,C`, rule R310. -/
def execLd_IXH_C (s : State) : Host.Outcome State Fault Refusal := .next (s.ldReg .ixh .c 2)

/-- `LD IXH,D`, rule R310. -/
def execLd_IXH_D (s : State) : Host.Outcome State Fault Refusal := .next (s.ldReg .ixh .d 2)

/-- `LD IXH,E`, rule R310. -/
def execLd_IXH_E (s : State) : Host.Outcome State Fault Refusal := .next (s.ldReg .ixh .e 2)

/-- `LD IXH,IXH`, rule R310. -/
def execLd_IXH_IXH (s : State) : Host.Outcome State Fault Refusal := .next (s.ldReg .ixh .ixh 2)

/-- `LD IXH,IXL`, rule R310. -/
def execLd_IXH_IXL (s : State) : Host.Outcome State Fault Refusal := .next (s.ldReg .ixh .ixl 2)

/-- `LD H,(IX+d)`, rule R312. -/
def execLd_H_atIXd (d : Byte) (s : State) : Host.Outcome State Fault Refusal := .next (s.ldFromMem .h (displaced s.ix d) 3)

/-- `LD IXH,A`, rule R310. -/
def execLd_IXH_A (s : State) : Host.Outcome State Fault Refusal := .next (s.ldReg .ixh .a 2)

/-- `LD IXL,B`, rule R310. -/
def execLd_IXL_B (s : State) : Host.Outcome State Fault Refusal := .next (s.ldReg .ixl .b 2)

/-- `LD IXL,C`, rule R310. -/
def execLd_IXL_C (s : State) : Host.Outcome State Fault Refusal := .next (s.ldReg .ixl .c 2)

/-- `LD IXL,D`, rule R310. -/
def execLd_IXL_D (s : State) : Host.Outcome State Fault Refusal := .next (s.ldReg .ixl .d 2)

/-- `LD IXL,E`, rule R310. -/
def execLd_IXL_E (s : State) : Host.Outcome State Fault Refusal := .next (s.ldReg .ixl .e 2)

/-- `LD IXL,IXH`, rule R310. -/
def execLd_IXL_IXH (s : State) : Host.Outcome State Fault Refusal := .next (s.ldReg .ixl .ixh 2)

/-- `LD IXL,IXL`, rule R310. -/
def execLd_IXL_IXL (s : State) : Host.Outcome State Fault Refusal := .next (s.ldReg .ixl .ixl 2)

/-- `LD L,(IX+d)`, rule R312. -/
def execLd_L_atIXd (d : Byte) (s : State) : Host.Outcome State Fault Refusal := .next (s.ldFromMem .l (displaced s.ix d) 3)

/-- `LD IXL,A`, rule R310. -/
def execLd_IXL_A (s : State) : Host.Outcome State Fault Refusal := .next (s.ldReg .ixl .a 2)

/-- `LD (IX+d),B`, rule R313. -/
def execLd_atIXd_B (d : Byte) (s : State) : Host.Outcome State Fault Refusal := .next (s.ldToMem (displaced s.ix d) s.b 3)

/-- `LD (IX+d),C`, rule R313. -/
def execLd_atIXd_C (d : Byte) (s : State) : Host.Outcome State Fault Refusal := .next (s.ldToMem (displaced s.ix d) s.c 3)

/-- `LD (IX+d),D`, rule R313. -/
def execLd_atIXd_D (d : Byte) (s : State) : Host.Outcome State Fault Refusal := .next (s.ldToMem (displaced s.ix d) s.d 3)

/-- `LD (IX+d),E`, rule R313. -/
def execLd_atIXd_E (d : Byte) (s : State) : Host.Outcome State Fault Refusal := .next (s.ldToMem (displaced s.ix d) s.e 3)

/-- `LD (IX+d),H`, rule R313. -/
def execLd_atIXd_H (d : Byte) (s : State) : Host.Outcome State Fault Refusal := .next (s.ldToMem (displaced s.ix d) s.h 3)

/-- `LD (IX+d),L`, rule R313. -/
def execLd_atIXd_L (d : Byte) (s : State) : Host.Outcome State Fault Refusal := .next (s.ldToMem (displaced s.ix d) s.l 3)

/-- `LD (IX+d),A`, rule R313. -/
def execLd_atIXd_A (d : Byte) (s : State) : Host.Outcome State Fault Refusal := .next (s.ldToMem (displaced s.ix d) s.a 3)

/-- `LD A,IXH`, rule R310. -/
def execLd_A_IXH (s : State) : Host.Outcome State Fault Refusal := .next (s.ldReg .a .ixh 2)

/-- `LD A,IXL`, rule R310. -/
def execLd_A_IXL (s : State) : Host.Outcome State Fault Refusal := .next (s.ldReg .a .ixl 2)

/-- `LD A,(IX+d)`, rule R312. -/
def execLd_A_atIXd (d : Byte) (s : State) : Host.Outcome State Fault Refusal := .next (s.ldFromMem .a (displaced s.ix d) 3)

/-- `LD SP,IX`, rule R322. -/
def execLd_SP_IX (s : State) : Host.Outcome State Fault Refusal := .next (s.ldWord .sp s.ix 2)

/-- `LD IY,nn`, rule R319. -/
def execLd_IY_nn (nn : Word) (s : State) : Host.Outcome State Fault Refusal := .next (s.ldWord .iy nn 4)

/-- `LD (nn),IY`, rule R321. -/
def execLd_atNn_IY (nn : Word) (s : State) : Host.Outcome State Fault Refusal := .next (s.ldWordToMem nn s.iy 4)

/-- `LD IY,(nn)`, rule R320. -/
def execLd_IY_atNn (nn : Word) (s : State) : Host.Outcome State Fault Refusal := .next (s.ldWordFromMem .iy nn 4)

/-- `LD IYH,n`, rule R311. -/
def execLd_IYH_n (n : Byte) (s : State) : Host.Outcome State Fault Refusal := .next (s.ldImm .iyh n 3)

/-- `LD IYL,n`, rule R311. -/
def execLd_IYL_n (n : Byte) (s : State) : Host.Outcome State Fault Refusal := .next (s.ldImm .iyl n 3)

/-- `LD (IY+d),n`, rule R314. -/
def execLd_atIYd_n (d : Byte) (n : Byte) (s : State) : Host.Outcome State Fault Refusal := .next (s.ldToMem (displaced s.iy d) n 4)

/-- `LD B,IYH`, rule R310. -/
def execLd_B_IYH (s : State) : Host.Outcome State Fault Refusal := .next (s.ldReg .b .iyh 2)

/-- `LD B,IYL`, rule R310. -/
def execLd_B_IYL (s : State) : Host.Outcome State Fault Refusal := .next (s.ldReg .b .iyl 2)

/-- `LD B,(IY+d)`, rule R312. -/
def execLd_B_atIYd (d : Byte) (s : State) : Host.Outcome State Fault Refusal := .next (s.ldFromMem .b (displaced s.iy d) 3)

/-- `LD C,IYH`, rule R310. -/
def execLd_C_IYH (s : State) : Host.Outcome State Fault Refusal := .next (s.ldReg .c .iyh 2)

/-- `LD C,IYL`, rule R310. -/
def execLd_C_IYL (s : State) : Host.Outcome State Fault Refusal := .next (s.ldReg .c .iyl 2)

/-- `LD C,(IY+d)`, rule R312. -/
def execLd_C_atIYd (d : Byte) (s : State) : Host.Outcome State Fault Refusal := .next (s.ldFromMem .c (displaced s.iy d) 3)

/-- `LD D,IYH`, rule R310. -/
def execLd_D_IYH (s : State) : Host.Outcome State Fault Refusal := .next (s.ldReg .d .iyh 2)

/-- `LD D,IYL`, rule R310. -/
def execLd_D_IYL (s : State) : Host.Outcome State Fault Refusal := .next (s.ldReg .d .iyl 2)

/-- `LD D,(IY+d)`, rule R312. -/
def execLd_D_atIYd (d : Byte) (s : State) : Host.Outcome State Fault Refusal := .next (s.ldFromMem .d (displaced s.iy d) 3)

/-- `LD E,IYH`, rule R310. -/
def execLd_E_IYH (s : State) : Host.Outcome State Fault Refusal := .next (s.ldReg .e .iyh 2)

/-- `LD E,IYL`, rule R310. -/
def execLd_E_IYL (s : State) : Host.Outcome State Fault Refusal := .next (s.ldReg .e .iyl 2)

/-- `LD E,(IY+d)`, rule R312. -/
def execLd_E_atIYd (d : Byte) (s : State) : Host.Outcome State Fault Refusal := .next (s.ldFromMem .e (displaced s.iy d) 3)

/-- `LD IYH,B`, rule R310. -/
def execLd_IYH_B (s : State) : Host.Outcome State Fault Refusal := .next (s.ldReg .iyh .b 2)

/-- `LD IYH,C`, rule R310. -/
def execLd_IYH_C (s : State) : Host.Outcome State Fault Refusal := .next (s.ldReg .iyh .c 2)

/-- `LD IYH,D`, rule R310. -/
def execLd_IYH_D (s : State) : Host.Outcome State Fault Refusal := .next (s.ldReg .iyh .d 2)

/-- `LD IYH,E`, rule R310. -/
def execLd_IYH_E (s : State) : Host.Outcome State Fault Refusal := .next (s.ldReg .iyh .e 2)

/-- `LD IYH,IYH`, rule R310. -/
def execLd_IYH_IYH (s : State) : Host.Outcome State Fault Refusal := .next (s.ldReg .iyh .iyh 2)

/-- `LD IYH,IYL`, rule R310. -/
def execLd_IYH_IYL (s : State) : Host.Outcome State Fault Refusal := .next (s.ldReg .iyh .iyl 2)

/-- `LD H,(IY+d)`, rule R312. -/
def execLd_H_atIYd (d : Byte) (s : State) : Host.Outcome State Fault Refusal := .next (s.ldFromMem .h (displaced s.iy d) 3)

/-- `LD IYH,A`, rule R310. -/
def execLd_IYH_A (s : State) : Host.Outcome State Fault Refusal := .next (s.ldReg .iyh .a 2)

/-- `LD IYL,B`, rule R310. -/
def execLd_IYL_B (s : State) : Host.Outcome State Fault Refusal := .next (s.ldReg .iyl .b 2)

/-- `LD IYL,C`, rule R310. -/
def execLd_IYL_C (s : State) : Host.Outcome State Fault Refusal := .next (s.ldReg .iyl .c 2)

/-- `LD IYL,D`, rule R310. -/
def execLd_IYL_D (s : State) : Host.Outcome State Fault Refusal := .next (s.ldReg .iyl .d 2)

/-- `LD IYL,E`, rule R310. -/
def execLd_IYL_E (s : State) : Host.Outcome State Fault Refusal := .next (s.ldReg .iyl .e 2)

/-- `LD IYL,IYH`, rule R310. -/
def execLd_IYL_IYH (s : State) : Host.Outcome State Fault Refusal := .next (s.ldReg .iyl .iyh 2)

/-- `LD IYL,IYL`, rule R310. -/
def execLd_IYL_IYL (s : State) : Host.Outcome State Fault Refusal := .next (s.ldReg .iyl .iyl 2)

/-- `LD L,(IY+d)`, rule R312. -/
def execLd_L_atIYd (d : Byte) (s : State) : Host.Outcome State Fault Refusal := .next (s.ldFromMem .l (displaced s.iy d) 3)

/-- `LD IYL,A`, rule R310. -/
def execLd_IYL_A (s : State) : Host.Outcome State Fault Refusal := .next (s.ldReg .iyl .a 2)

/-- `LD (IY+d),B`, rule R313. -/
def execLd_atIYd_B (d : Byte) (s : State) : Host.Outcome State Fault Refusal := .next (s.ldToMem (displaced s.iy d) s.b 3)

/-- `LD (IY+d),C`, rule R313. -/
def execLd_atIYd_C (d : Byte) (s : State) : Host.Outcome State Fault Refusal := .next (s.ldToMem (displaced s.iy d) s.c 3)

/-- `LD (IY+d),D`, rule R313. -/
def execLd_atIYd_D (d : Byte) (s : State) : Host.Outcome State Fault Refusal := .next (s.ldToMem (displaced s.iy d) s.d 3)

/-- `LD (IY+d),E`, rule R313. -/
def execLd_atIYd_E (d : Byte) (s : State) : Host.Outcome State Fault Refusal := .next (s.ldToMem (displaced s.iy d) s.e 3)

/-- `LD (IY+d),H`, rule R313. -/
def execLd_atIYd_H (d : Byte) (s : State) : Host.Outcome State Fault Refusal := .next (s.ldToMem (displaced s.iy d) s.h 3)

/-- `LD (IY+d),L`, rule R313. -/
def execLd_atIYd_L (d : Byte) (s : State) : Host.Outcome State Fault Refusal := .next (s.ldToMem (displaced s.iy d) s.l 3)

/-- `LD (IY+d),A`, rule R313. -/
def execLd_atIYd_A (d : Byte) (s : State) : Host.Outcome State Fault Refusal := .next (s.ldToMem (displaced s.iy d) s.a 3)

/-- `LD A,IYH`, rule R310. -/
def execLd_A_IYH (s : State) : Host.Outcome State Fault Refusal := .next (s.ldReg .a .iyh 2)

/-- `LD A,IYL`, rule R310. -/
def execLd_A_IYL (s : State) : Host.Outcome State Fault Refusal := .next (s.ldReg .a .iyl 2)

/-- `LD A,(IY+d)`, rule R312. -/
def execLd_A_atIYd (d : Byte) (s : State) : Host.Outcome State Fault Refusal := .next (s.ldFromMem .a (displaced s.iy d) 3)

/-- `LD SP,IY`, rule R322. -/
def execLd_SP_IY (s : State) : Host.Outcome State Fault Refusal := .next (s.ldWord .sp s.iy 2)

end Sys2Proof.Machine
end

