-- ==== Sys2Proof/Machine/Logic.lean ====
section
/-! DEFINITION. The meanings of `AND`, `OR`, `XOR`, `CPL`, `CCF`, `SCF`, `BIT`, `RES` and `SET` (41_logic_bit.md,
rules R170 to R179), after the operations they share. -/

namespace Sys2Proof.Machine

/-- The flags of a logical operation: `szp` of the result, `H` as given, `N` and `C` reset (rules R170 to R172). -/
def logicFlags (res : Byte) (h : Bool) : FlagUpdate := fun old free =>
  { szpFlags res h old free with c := false }

/-- `AND s` (rule R170); `H` is set (decision D27). -/
def State.andA (o : Operand8) (len : Nat) (s : State) : State :=
  let v := s.read8 o
  (State.writeFlags (logicFlags (s.a &&& v.1) true) { v.2 with a := s.a &&& v.1 }).advance len

/-- `OR s` (rule R171); `H` is reset (decision D27). -/
def State.orA (o : Operand8) (len : Nat) (s : State) : State :=
  let v := s.read8 o
  (State.writeFlags (logicFlags (s.a ||| v.1) false) { v.2 with a := s.a ||| v.1 }).advance len

/-- `XOR s` (rule R172); `H` is reset (decision D27). -/
def State.xorA (o : Operand8) (len : Nat) (s : State) : State :=
  let v := s.read8 o
  (State.writeFlags (logicFlags (s.a ^^^ v.1) false) { v.2 with a := s.a ^^^ v.1 }).advance len

/-- `CPL` (rule R174). -/
def State.complementA (s : State) : State :=
  (State.writeFlags (fun old _ => { old with h := true, n := true }) { s with a := s.a ^^^ 0xFF }).advance 1

/-- `CCF` (rule R175, as the source states it: `H` is inverted; log entry 8). -/
def State.invertCarry (s : State) : State :=
  (s.writeFlags fun old _ => { old with c := !old.c, h := !old.h, n := false }).advance 1

/-- `SCF` (rule R176). -/
def State.raiseCarry (s : State) : State :=
  (s.writeFlags fun old _ => { old with c := true, h := false, n := false }).advance 1

/-- The flags of `BIT b,m8` (rule R177): `S` and `P/V` are free. -/
def bitFlags (b : Nat) (v : Byte) : FlagUpdate := fun old free =>
  { old with z := !v.getLsbD b, h := true, n := false, s := free.s, pv := free.pv }

/-- `BIT b,m8` (rule R177): the operand is not written. -/
def State.testBit (b : Nat) (p : Place8) (len : Nat) (s : State) : State :=
  let v := s.readLocation (s.locate p)
  (v.2.writeFlags (bitFlags b v.1)).advance len

/-- `v AND NOT (1 << b)` (rule R178). -/
def resetBit (b : Nat) (v : Byte) : Byte := v &&& ~~~((1 : Byte) <<< b)

/-- `v OR (1 << b)` (rule R179). -/
def setBit (b : Nat) (v : Byte) : Byte := v ||| ((1 : Byte) <<< b)

/-- A byte changed in place, no flag: a read and then a write of the whole byte (rules R116, R178, R179). -/
def State.modifyPlace (g : Byte → Byte) (p : Place8) (len : Nat) (s : State) : State :=
  let loc := s.locate p
  let v := s.readLocation loc
  (v.2.writeLocation loc (g v.1)).advance len

/-! ### The meanings, one per instruction -/

/-- `CPL`, rule R174. -/
def execCpl (s : State) : Host.Outcome State Fault Refusal := .next (s.complementA)

/-- `SCF`, rule R176. -/
def execScf (s : State) : Host.Outcome State Fault Refusal := .next (s.raiseCarry)

/-- `CCF`, rule R175. -/
def execCcf (s : State) : Host.Outcome State Fault Refusal := .next (s.invertCarry)

/-- `AND B`, rule R170. -/
def execAnd_B (s : State) : Host.Outcome State Fault Refusal := .next (s.andA (.place (.reg .b)) 1)

/-- `AND C`, rule R170. -/
def execAnd_C (s : State) : Host.Outcome State Fault Refusal := .next (s.andA (.place (.reg .c)) 1)

/-- `AND D`, rule R170. -/
def execAnd_D (s : State) : Host.Outcome State Fault Refusal := .next (s.andA (.place (.reg .d)) 1)

/-- `AND E`, rule R170. -/
def execAnd_E (s : State) : Host.Outcome State Fault Refusal := .next (s.andA (.place (.reg .e)) 1)

/-- `AND H`, rule R170. -/
def execAnd_H (s : State) : Host.Outcome State Fault Refusal := .next (s.andA (.place (.reg .h)) 1)

/-- `AND L`, rule R170. -/
def execAnd_L (s : State) : Host.Outcome State Fault Refusal := .next (s.andA (.place (.reg .l)) 1)

/-- `AND (HL)`, rule R170. -/
def execAnd_atHL (s : State) : Host.Outcome State Fault Refusal := .next (s.andA (.place .atHL) 1)

/-- `AND A`, rule R170. -/
def execAnd_A (s : State) : Host.Outcome State Fault Refusal := .next (s.andA (.place (.reg .a)) 1)

/-- `AND n`, rule R170. -/
def execAnd_n (n : Byte) (s : State) : Host.Outcome State Fault Refusal := .next (s.andA (.imm n) 2)

/-- `XOR B`, rule R172. -/
def execXor_B (s : State) : Host.Outcome State Fault Refusal := .next (s.xorA (.place (.reg .b)) 1)

/-- `XOR C`, rule R172. -/
def execXor_C (s : State) : Host.Outcome State Fault Refusal := .next (s.xorA (.place (.reg .c)) 1)

/-- `XOR D`, rule R172. -/
def execXor_D (s : State) : Host.Outcome State Fault Refusal := .next (s.xorA (.place (.reg .d)) 1)

/-- `XOR E`, rule R172. -/
def execXor_E (s : State) : Host.Outcome State Fault Refusal := .next (s.xorA (.place (.reg .e)) 1)

/-- `XOR H`, rule R172. -/
def execXor_H (s : State) : Host.Outcome State Fault Refusal := .next (s.xorA (.place (.reg .h)) 1)

/-- `XOR L`, rule R172. -/
def execXor_L (s : State) : Host.Outcome State Fault Refusal := .next (s.xorA (.place (.reg .l)) 1)

/-- `XOR (HL)`, rule R172. -/
def execXor_atHL (s : State) : Host.Outcome State Fault Refusal := .next (s.xorA (.place .atHL) 1)

/-- `XOR A`, rule R172. -/
def execXor_A (s : State) : Host.Outcome State Fault Refusal := .next (s.xorA (.place (.reg .a)) 1)

/-- `XOR n`, rule R172. -/
def execXor_n (n : Byte) (s : State) : Host.Outcome State Fault Refusal := .next (s.xorA (.imm n) 2)

/-- `OR B`, rule R171. -/
def execOr_B (s : State) : Host.Outcome State Fault Refusal := .next (s.orA (.place (.reg .b)) 1)

/-- `OR C`, rule R171. -/
def execOr_C (s : State) : Host.Outcome State Fault Refusal := .next (s.orA (.place (.reg .c)) 1)

/-- `OR D`, rule R171. -/
def execOr_D (s : State) : Host.Outcome State Fault Refusal := .next (s.orA (.place (.reg .d)) 1)

/-- `OR E`, rule R171. -/
def execOr_E (s : State) : Host.Outcome State Fault Refusal := .next (s.orA (.place (.reg .e)) 1)

/-- `OR H`, rule R171. -/
def execOr_H (s : State) : Host.Outcome State Fault Refusal := .next (s.orA (.place (.reg .h)) 1)

/-- `OR L`, rule R171. -/
def execOr_L (s : State) : Host.Outcome State Fault Refusal := .next (s.orA (.place (.reg .l)) 1)

/-- `OR (HL)`, rule R171. -/
def execOr_atHL (s : State) : Host.Outcome State Fault Refusal := .next (s.orA (.place .atHL) 1)

/-- `OR A`, rule R171. -/
def execOr_A (s : State) : Host.Outcome State Fault Refusal := .next (s.orA (.place (.reg .a)) 1)

/-- `OR n`, rule R171. -/
def execOr_n (n : Byte) (s : State) : Host.Outcome State Fault Refusal := .next (s.orA (.imm n) 2)

/-- `BIT b,B`, rule R177. -/
def execBit_b_B (b : Nat) (s : State) : Host.Outcome State Fault Refusal := .next (s.testBit b (.reg .b) 2)

/-- `BIT b,C`, rule R177. -/
def execBit_b_C (b : Nat) (s : State) : Host.Outcome State Fault Refusal := .next (s.testBit b (.reg .c) 2)

/-- `BIT b,D`, rule R177. -/
def execBit_b_D (b : Nat) (s : State) : Host.Outcome State Fault Refusal := .next (s.testBit b (.reg .d) 2)

/-- `BIT b,E`, rule R177. -/
def execBit_b_E (b : Nat) (s : State) : Host.Outcome State Fault Refusal := .next (s.testBit b (.reg .e) 2)

/-- `BIT b,H`, rule R177. -/
def execBit_b_H (b : Nat) (s : State) : Host.Outcome State Fault Refusal := .next (s.testBit b (.reg .h) 2)

/-- `BIT b,L`, rule R177. -/
def execBit_b_L (b : Nat) (s : State) : Host.Outcome State Fault Refusal := .next (s.testBit b (.reg .l) 2)

/-- `BIT b,(HL)`, rule R177. -/
def execBit_b_atHL (b : Nat) (s : State) : Host.Outcome State Fault Refusal := .next (s.testBit b .atHL 2)

/-- `BIT b,A`, rule R177. -/
def execBit_b_A (b : Nat) (s : State) : Host.Outcome State Fault Refusal := .next (s.testBit b (.reg .a) 2)

/-- `RES b,B`, rule R178. -/
def execRes_b_B (b : Nat) (s : State) : Host.Outcome State Fault Refusal := .next (s.modifyPlace (resetBit b) (.reg .b) 2)

/-- `RES b,C`, rule R178. -/
def execRes_b_C (b : Nat) (s : State) : Host.Outcome State Fault Refusal := .next (s.modifyPlace (resetBit b) (.reg .c) 2)

/-- `RES b,D`, rule R178. -/
def execRes_b_D (b : Nat) (s : State) : Host.Outcome State Fault Refusal := .next (s.modifyPlace (resetBit b) (.reg .d) 2)

/-- `RES b,E`, rule R178. -/
def execRes_b_E (b : Nat) (s : State) : Host.Outcome State Fault Refusal := .next (s.modifyPlace (resetBit b) (.reg .e) 2)

/-- `RES b,H`, rule R178. -/
def execRes_b_H (b : Nat) (s : State) : Host.Outcome State Fault Refusal := .next (s.modifyPlace (resetBit b) (.reg .h) 2)

/-- `RES b,L`, rule R178. -/
def execRes_b_L (b : Nat) (s : State) : Host.Outcome State Fault Refusal := .next (s.modifyPlace (resetBit b) (.reg .l) 2)

/-- `RES b,(HL)`, rule R178. -/
def execRes_b_atHL (b : Nat) (s : State) : Host.Outcome State Fault Refusal := .next (s.modifyPlace (resetBit b) .atHL 2)

/-- `RES b,A`, rule R178. -/
def execRes_b_A (b : Nat) (s : State) : Host.Outcome State Fault Refusal := .next (s.modifyPlace (resetBit b) (.reg .a) 2)

/-- `SET b,B`, rule R179. -/
def execSet_b_B (b : Nat) (s : State) : Host.Outcome State Fault Refusal := .next (s.modifyPlace (setBit b) (.reg .b) 2)

/-- `SET b,C`, rule R179. -/
def execSet_b_C (b : Nat) (s : State) : Host.Outcome State Fault Refusal := .next (s.modifyPlace (setBit b) (.reg .c) 2)

/-- `SET b,D`, rule R179. -/
def execSet_b_D (b : Nat) (s : State) : Host.Outcome State Fault Refusal := .next (s.modifyPlace (setBit b) (.reg .d) 2)

/-- `SET b,E`, rule R179. -/
def execSet_b_E (b : Nat) (s : State) : Host.Outcome State Fault Refusal := .next (s.modifyPlace (setBit b) (.reg .e) 2)

/-- `SET b,H`, rule R179. -/
def execSet_b_H (b : Nat) (s : State) : Host.Outcome State Fault Refusal := .next (s.modifyPlace (setBit b) (.reg .h) 2)

/-- `SET b,L`, rule R179. -/
def execSet_b_L (b : Nat) (s : State) : Host.Outcome State Fault Refusal := .next (s.modifyPlace (setBit b) (.reg .l) 2)

/-- `SET b,(HL)`, rule R179. -/
def execSet_b_atHL (b : Nat) (s : State) : Host.Outcome State Fault Refusal := .next (s.modifyPlace (setBit b) .atHL 2)

/-- `SET b,A`, rule R179. -/
def execSet_b_A (b : Nat) (s : State) : Host.Outcome State Fault Refusal := .next (s.modifyPlace (setBit b) (.reg .a) 2)

/-- `AND IXH`, rule R170. -/
def execAnd_IXH (s : State) : Host.Outcome State Fault Refusal := .next (s.andA (.place (.reg .ixh)) 2)

/-- `AND IXL`, rule R170. -/
def execAnd_IXL (s : State) : Host.Outcome State Fault Refusal := .next (s.andA (.place (.reg .ixl)) 2)

/-- `AND (IX+d)`, rule R170. -/
def execAnd_atIXd (d : Byte) (s : State) : Host.Outcome State Fault Refusal := .next (s.andA (.place (.atIX d)) 3)

/-- `XOR IXH`, rule R172. -/
def execXor_IXH (s : State) : Host.Outcome State Fault Refusal := .next (s.xorA (.place (.reg .ixh)) 2)

/-- `XOR IXL`, rule R172. -/
def execXor_IXL (s : State) : Host.Outcome State Fault Refusal := .next (s.xorA (.place (.reg .ixl)) 2)

/-- `XOR (IX+d)`, rule R172. -/
def execXor_atIXd (d : Byte) (s : State) : Host.Outcome State Fault Refusal := .next (s.xorA (.place (.atIX d)) 3)

/-- `OR IXH`, rule R171. -/
def execOr_IXH (s : State) : Host.Outcome State Fault Refusal := .next (s.orA (.place (.reg .ixh)) 2)

/-- `OR IXL`, rule R171. -/
def execOr_IXL (s : State) : Host.Outcome State Fault Refusal := .next (s.orA (.place (.reg .ixl)) 2)

/-- `OR (IX+d)`, rule R171. -/
def execOr_atIXd (d : Byte) (s : State) : Host.Outcome State Fault Refusal := .next (s.orA (.place (.atIX d)) 3)

/-- `BIT b,(IX+d)`, rule R177. -/
def execBit_b_atIXd (b : Nat) (d : Byte) (s : State) : Host.Outcome State Fault Refusal := .next (s.testBit b (.atIX d) 4)

/-- `RES b,(IX+d)`, rule R178. -/
def execRes_b_atIXd (b : Nat) (d : Byte) (s : State) : Host.Outcome State Fault Refusal := .next (s.modifyPlace (resetBit b) (.atIX d) 4)

/-- `SET b,(IX+d)`, rule R179. -/
def execSet_b_atIXd (b : Nat) (d : Byte) (s : State) : Host.Outcome State Fault Refusal := .next (s.modifyPlace (setBit b) (.atIX d) 4)

/-- `AND IYH`, rule R170. -/
def execAnd_IYH (s : State) : Host.Outcome State Fault Refusal := .next (s.andA (.place (.reg .iyh)) 2)

/-- `AND IYL`, rule R170. -/
def execAnd_IYL (s : State) : Host.Outcome State Fault Refusal := .next (s.andA (.place (.reg .iyl)) 2)

/-- `AND (IY+d)`, rule R170. -/
def execAnd_atIYd (d : Byte) (s : State) : Host.Outcome State Fault Refusal := .next (s.andA (.place (.atIY d)) 3)

/-- `XOR IYH`, rule R172. -/
def execXor_IYH (s : State) : Host.Outcome State Fault Refusal := .next (s.xorA (.place (.reg .iyh)) 2)

/-- `XOR IYL`, rule R172. -/
def execXor_IYL (s : State) : Host.Outcome State Fault Refusal := .next (s.xorA (.place (.reg .iyl)) 2)

/-- `XOR (IY+d)`, rule R172. -/
def execXor_atIYd (d : Byte) (s : State) : Host.Outcome State Fault Refusal := .next (s.xorA (.place (.atIY d)) 3)

/-- `OR IYH`, rule R171. -/
def execOr_IYH (s : State) : Host.Outcome State Fault Refusal := .next (s.orA (.place (.reg .iyh)) 2)

/-- `OR IYL`, rule R171. -/
def execOr_IYL (s : State) : Host.Outcome State Fault Refusal := .next (s.orA (.place (.reg .iyl)) 2)

/-- `OR (IY+d)`, rule R171. -/
def execOr_atIYd (d : Byte) (s : State) : Host.Outcome State Fault Refusal := .next (s.orA (.place (.atIY d)) 3)

/-- `BIT b,(IY+d)`, rule R177. -/
def execBit_b_atIYd (b : Nat) (d : Byte) (s : State) : Host.Outcome State Fault Refusal := .next (s.testBit b (.atIY d) 4)

/-- `RES b,(IY+d)`, rule R178. -/
def execRes_b_atIYd (b : Nat) (d : Byte) (s : State) : Host.Outcome State Fault Refusal := .next (s.modifyPlace (resetBit b) (.atIY d) 4)

/-- `SET b,(IY+d)`, rule R179. -/
def execSet_b_atIYd (b : Nat) (d : Byte) (s : State) : Host.Outcome State Fault Refusal := .next (s.modifyPlace (setBit b) (.atIY d) 4)

end Sys2Proof.Machine
end

