-- ==== Sys2Proof/Machine/RotateShift.lean ====
section
/-! DEFINITION. The meanings of the rotates and shifts (48_rotate_shift.md, rules R350 to R363), after the
operations they share. -/

namespace Sys2Proof.Machine

/-- The eight rotates and shifts, `rot[k]` (rule R101). -/
inductive ShiftKind where
  | rlc
  | rrc
  | rl
  | rr
  | sla
  | sra
  | sll
  | srl
deriving DecidableEq, Repr

/-- `v[6:0] ++ low`: one place to the left. -/
def shiftLeft (v : Byte) (low : Bool) : Byte := v.extractLsb' 0 7 ++ BitVec.ofBool low

/-- `high ++ v[7:1]`: one place to the right. -/
def shiftRight (v : Byte) (high : Bool) : Byte := BitVec.ofBool high ++ v.extractLsb' 1 7

/-- The result of a rotate or shift of `v` with the carry `cin` (rules R354 to R361). -/
def ShiftKind.result (k : ShiftKind) (v : Byte) (cin : Bool) : Byte :=
  match k with
  | .rlc => shiftLeft v (v.getLsbD 7)
  | .rrc => shiftRight v (v.getLsbD 0)
  | .rl => shiftLeft v cin
  | .rr => shiftRight v cin
  | .sla => shiftLeft v false
  | .sra => shiftRight v (v.getLsbD 7)
  | .sll => shiftLeft v true
  | .srl => shiftRight v false

/-- The bit that leaves the operand, the carry out (rules R354 to R361). -/
def ShiftKind.carry (k : ShiftKind) (v : Byte) : Bool :=
  match k with
  | .rlc | .rl | .sla | .sll => v.getLsbD 7
  | .rrc | .rr | .sra | .srl => v.getLsbD 0

/-- The `CB`-page rotates and shifts: all six flags are written (48_rotate_shift.md section 2, rules R354 to R361). -/
def State.shiftPlace (k : ShiftKind) (p : Place8) (len : Nat) (s : State) : State :=
  let loc := s.locate p
  let v := s.readLocation loc
  let res := k.result v.1 s.f.c
  ((v.2.writeLocation loc res).writeFlags fun old free =>
    { szpFlags res false old free with c := k.carry v.1 }).advance len

/-- The accumulator rotates: `S`, `Z` and `P/V` stay (rules R350 to R353). -/
def State.rotateA (k : ShiftKind) (s : State) : State :=
  (State.writeFlags (fun old _ => { old with c := k.carry s.a, h := false, n := false })
    { s with a := k.result s.a s.f.c }).advance 1

/-- The high four bits `v[7:4]`. -/
def highDigit (v : Byte) : BitVec 4 := v.extractLsb' 4 4

/-- The low four bits `v[3:0]`. -/
def lowDigit (v : Byte) : BitVec 4 := v.extractLsb' 0 4

/-- The decimal digit rotates (rules R362, R363): the byte at `HL` and the low digit of `A` change as given, and the
flags are those of the new `A`. -/
def State.rotateDigits (newMem newA : (a m : Byte) → Byte) (s : State) : State :=
  let m := s.readByte s.hl
  (State.writeFlags (szpFlags (newA s.a m.1) false)
    { m.2.writeByte s.hl (newMem s.a m.1) with a := newA s.a m.1 }).advance 2

/-- `RLD` leaves `m[3:0] ++ A[3:0]` at `HL` (rule R362). -/
def rldMem (a m : Byte) : Byte := lowDigit m ++ lowDigit a

/-- `RLD` leaves `A[7:4] ++ m[7:4]` in `A` (rule R362). -/
def rldA (a m : Byte) : Byte := highDigit a ++ highDigit m

/-- `RRD` leaves `A[3:0] ++ m[7:4]` at `HL` (rule R363). -/
def rrdMem (a m : Byte) : Byte := lowDigit a ++ highDigit m

/-- `RRD` leaves `A[7:4] ++ m[3:0]` in `A` (rule R363). -/
def rrdA (a m : Byte) : Byte := highDigit a ++ lowDigit m

/-! ### The meanings, one per instruction -/

/-- `RLCA`, rule R350. -/
def execRlca (s : State) : Host.Outcome State Fault Refusal := .next (s.rotateA .rlc)

/-- `RRCA`, rule R352. -/
def execRrca (s : State) : Host.Outcome State Fault Refusal := .next (s.rotateA .rrc)

/-- `RLA`, rule R351. -/
def execRla (s : State) : Host.Outcome State Fault Refusal := .next (s.rotateA .rl)

/-- `RRA`, rule R353. -/
def execRra (s : State) : Host.Outcome State Fault Refusal := .next (s.rotateA .rr)

/-- `RLC B`, rule R354. -/
def execRlc_B (s : State) : Host.Outcome State Fault Refusal := .next (s.shiftPlace .rlc (.reg .b) 2)

/-- `RLC C`, rule R354. -/
def execRlc_C (s : State) : Host.Outcome State Fault Refusal := .next (s.shiftPlace .rlc (.reg .c) 2)

/-- `RLC D`, rule R354. -/
def execRlc_D (s : State) : Host.Outcome State Fault Refusal := .next (s.shiftPlace .rlc (.reg .d) 2)

/-- `RLC E`, rule R354. -/
def execRlc_E (s : State) : Host.Outcome State Fault Refusal := .next (s.shiftPlace .rlc (.reg .e) 2)

/-- `RLC H`, rule R354. -/
def execRlc_H (s : State) : Host.Outcome State Fault Refusal := .next (s.shiftPlace .rlc (.reg .h) 2)

/-- `RLC L`, rule R354. -/
def execRlc_L (s : State) : Host.Outcome State Fault Refusal := .next (s.shiftPlace .rlc (.reg .l) 2)

/-- `RLC (HL)`, rule R354. -/
def execRlc_atHL (s : State) : Host.Outcome State Fault Refusal := .next (s.shiftPlace .rlc .atHL 2)

/-- `RLC A`, rule R354. -/
def execRlc_A (s : State) : Host.Outcome State Fault Refusal := .next (s.shiftPlace .rlc (.reg .a) 2)

/-- `RRC B`, rule R356. -/
def execRrc_B (s : State) : Host.Outcome State Fault Refusal := .next (s.shiftPlace .rrc (.reg .b) 2)

/-- `RRC C`, rule R356. -/
def execRrc_C (s : State) : Host.Outcome State Fault Refusal := .next (s.shiftPlace .rrc (.reg .c) 2)

/-- `RRC D`, rule R356. -/
def execRrc_D (s : State) : Host.Outcome State Fault Refusal := .next (s.shiftPlace .rrc (.reg .d) 2)

/-- `RRC E`, rule R356. -/
def execRrc_E (s : State) : Host.Outcome State Fault Refusal := .next (s.shiftPlace .rrc (.reg .e) 2)

/-- `RRC H`, rule R356. -/
def execRrc_H (s : State) : Host.Outcome State Fault Refusal := .next (s.shiftPlace .rrc (.reg .h) 2)

/-- `RRC L`, rule R356. -/
def execRrc_L (s : State) : Host.Outcome State Fault Refusal := .next (s.shiftPlace .rrc (.reg .l) 2)

/-- `RRC (HL)`, rule R356. -/
def execRrc_atHL (s : State) : Host.Outcome State Fault Refusal := .next (s.shiftPlace .rrc .atHL 2)

/-- `RRC A`, rule R356. -/
def execRrc_A (s : State) : Host.Outcome State Fault Refusal := .next (s.shiftPlace .rrc (.reg .a) 2)

/-- `RL B`, rule R355. -/
def execRl_B (s : State) : Host.Outcome State Fault Refusal := .next (s.shiftPlace .rl (.reg .b) 2)

/-- `RL C`, rule R355. -/
def execRl_C (s : State) : Host.Outcome State Fault Refusal := .next (s.shiftPlace .rl (.reg .c) 2)

/-- `RL D`, rule R355. -/
def execRl_D (s : State) : Host.Outcome State Fault Refusal := .next (s.shiftPlace .rl (.reg .d) 2)

/-- `RL E`, rule R355. -/
def execRl_E (s : State) : Host.Outcome State Fault Refusal := .next (s.shiftPlace .rl (.reg .e) 2)

/-- `RL H`, rule R355. -/
def execRl_H (s : State) : Host.Outcome State Fault Refusal := .next (s.shiftPlace .rl (.reg .h) 2)

/-- `RL L`, rule R355. -/
def execRl_L (s : State) : Host.Outcome State Fault Refusal := .next (s.shiftPlace .rl (.reg .l) 2)

/-- `RL (HL)`, rule R355. -/
def execRl_atHL (s : State) : Host.Outcome State Fault Refusal := .next (s.shiftPlace .rl .atHL 2)

/-- `RL A`, rule R355. -/
def execRl_A (s : State) : Host.Outcome State Fault Refusal := .next (s.shiftPlace .rl (.reg .a) 2)

/-- `RR B`, rule R357. -/
def execRr_B (s : State) : Host.Outcome State Fault Refusal := .next (s.shiftPlace .rr (.reg .b) 2)

/-- `RR C`, rule R357. -/
def execRr_C (s : State) : Host.Outcome State Fault Refusal := .next (s.shiftPlace .rr (.reg .c) 2)

/-- `RR D`, rule R357. -/
def execRr_D (s : State) : Host.Outcome State Fault Refusal := .next (s.shiftPlace .rr (.reg .d) 2)

/-- `RR E`, rule R357. -/
def execRr_E (s : State) : Host.Outcome State Fault Refusal := .next (s.shiftPlace .rr (.reg .e) 2)

/-- `RR H`, rule R357. -/
def execRr_H (s : State) : Host.Outcome State Fault Refusal := .next (s.shiftPlace .rr (.reg .h) 2)

/-- `RR L`, rule R357. -/
def execRr_L (s : State) : Host.Outcome State Fault Refusal := .next (s.shiftPlace .rr (.reg .l) 2)

/-- `RR (HL)`, rule R357. -/
def execRr_atHL (s : State) : Host.Outcome State Fault Refusal := .next (s.shiftPlace .rr .atHL 2)

/-- `RR A`, rule R357. -/
def execRr_A (s : State) : Host.Outcome State Fault Refusal := .next (s.shiftPlace .rr (.reg .a) 2)

/-- `SLA B`, rule R358. -/
def execSla_B (s : State) : Host.Outcome State Fault Refusal := .next (s.shiftPlace .sla (.reg .b) 2)

/-- `SLA C`, rule R358. -/
def execSla_C (s : State) : Host.Outcome State Fault Refusal := .next (s.shiftPlace .sla (.reg .c) 2)

/-- `SLA D`, rule R358. -/
def execSla_D (s : State) : Host.Outcome State Fault Refusal := .next (s.shiftPlace .sla (.reg .d) 2)

/-- `SLA E`, rule R358. -/
def execSla_E (s : State) : Host.Outcome State Fault Refusal := .next (s.shiftPlace .sla (.reg .e) 2)

/-- `SLA H`, rule R358. -/
def execSla_H (s : State) : Host.Outcome State Fault Refusal := .next (s.shiftPlace .sla (.reg .h) 2)

/-- `SLA L`, rule R358. -/
def execSla_L (s : State) : Host.Outcome State Fault Refusal := .next (s.shiftPlace .sla (.reg .l) 2)

/-- `SLA (HL)`, rule R358. -/
def execSla_atHL (s : State) : Host.Outcome State Fault Refusal := .next (s.shiftPlace .sla .atHL 2)

/-- `SLA A`, rule R358. -/
def execSla_A (s : State) : Host.Outcome State Fault Refusal := .next (s.shiftPlace .sla (.reg .a) 2)

/-- `SRA B`, rule R360. -/
def execSra_B (s : State) : Host.Outcome State Fault Refusal := .next (s.shiftPlace .sra (.reg .b) 2)

/-- `SRA C`, rule R360. -/
def execSra_C (s : State) : Host.Outcome State Fault Refusal := .next (s.shiftPlace .sra (.reg .c) 2)

/-- `SRA D`, rule R360. -/
def execSra_D (s : State) : Host.Outcome State Fault Refusal := .next (s.shiftPlace .sra (.reg .d) 2)

/-- `SRA E`, rule R360. -/
def execSra_E (s : State) : Host.Outcome State Fault Refusal := .next (s.shiftPlace .sra (.reg .e) 2)

/-- `SRA H`, rule R360. -/
def execSra_H (s : State) : Host.Outcome State Fault Refusal := .next (s.shiftPlace .sra (.reg .h) 2)

/-- `SRA L`, rule R360. -/
def execSra_L (s : State) : Host.Outcome State Fault Refusal := .next (s.shiftPlace .sra (.reg .l) 2)

/-- `SRA (HL)`, rule R360. -/
def execSra_atHL (s : State) : Host.Outcome State Fault Refusal := .next (s.shiftPlace .sra .atHL 2)

/-- `SRA A`, rule R360. -/
def execSra_A (s : State) : Host.Outcome State Fault Refusal := .next (s.shiftPlace .sra (.reg .a) 2)

/-- `SLL B`, rule R359. -/
def execSll_B (s : State) : Host.Outcome State Fault Refusal := .next (s.shiftPlace .sll (.reg .b) 2)

/-- `SLL C`, rule R359. -/
def execSll_C (s : State) : Host.Outcome State Fault Refusal := .next (s.shiftPlace .sll (.reg .c) 2)

/-- `SLL D`, rule R359. -/
def execSll_D (s : State) : Host.Outcome State Fault Refusal := .next (s.shiftPlace .sll (.reg .d) 2)

/-- `SLL E`, rule R359. -/
def execSll_E (s : State) : Host.Outcome State Fault Refusal := .next (s.shiftPlace .sll (.reg .e) 2)

/-- `SLL H`, rule R359. -/
def execSll_H (s : State) : Host.Outcome State Fault Refusal := .next (s.shiftPlace .sll (.reg .h) 2)

/-- `SLL L`, rule R359. -/
def execSll_L (s : State) : Host.Outcome State Fault Refusal := .next (s.shiftPlace .sll (.reg .l) 2)

/-- `SLL (HL)`, rule R359. -/
def execSll_atHL (s : State) : Host.Outcome State Fault Refusal := .next (s.shiftPlace .sll .atHL 2)

/-- `SLL A`, rule R359. -/
def execSll_A (s : State) : Host.Outcome State Fault Refusal := .next (s.shiftPlace .sll (.reg .a) 2)

/-- `SRL B`, rule R361. -/
def execSrl_B (s : State) : Host.Outcome State Fault Refusal := .next (s.shiftPlace .srl (.reg .b) 2)

/-- `SRL C`, rule R361. -/
def execSrl_C (s : State) : Host.Outcome State Fault Refusal := .next (s.shiftPlace .srl (.reg .c) 2)

/-- `SRL D`, rule R361. -/
def execSrl_D (s : State) : Host.Outcome State Fault Refusal := .next (s.shiftPlace .srl (.reg .d) 2)

/-- `SRL E`, rule R361. -/
def execSrl_E (s : State) : Host.Outcome State Fault Refusal := .next (s.shiftPlace .srl (.reg .e) 2)

/-- `SRL H`, rule R361. -/
def execSrl_H (s : State) : Host.Outcome State Fault Refusal := .next (s.shiftPlace .srl (.reg .h) 2)

/-- `SRL L`, rule R361. -/
def execSrl_L (s : State) : Host.Outcome State Fault Refusal := .next (s.shiftPlace .srl (.reg .l) 2)

/-- `SRL (HL)`, rule R361. -/
def execSrl_atHL (s : State) : Host.Outcome State Fault Refusal := .next (s.shiftPlace .srl .atHL 2)

/-- `SRL A`, rule R361. -/
def execSrl_A (s : State) : Host.Outcome State Fault Refusal := .next (s.shiftPlace .srl (.reg .a) 2)

/-- `RRD`, rule R363. -/
def execRrd (s : State) : Host.Outcome State Fault Refusal := .next (s.rotateDigits rrdMem rrdA)

/-- `RLD`, rule R362. -/
def execRld (s : State) : Host.Outcome State Fault Refusal := .next (s.rotateDigits rldMem rldA)

/-- `RLC (IX+d)`, rule R354. -/
def execRlc_atIXd (d : Byte) (s : State) : Host.Outcome State Fault Refusal := .next (s.shiftPlace .rlc (.atIX d) 4)

/-- `RRC (IX+d)`, rule R356. -/
def execRrc_atIXd (d : Byte) (s : State) : Host.Outcome State Fault Refusal := .next (s.shiftPlace .rrc (.atIX d) 4)

/-- `RL (IX+d)`, rule R355. -/
def execRl_atIXd (d : Byte) (s : State) : Host.Outcome State Fault Refusal := .next (s.shiftPlace .rl (.atIX d) 4)

/-- `RR (IX+d)`, rule R357. -/
def execRr_atIXd (d : Byte) (s : State) : Host.Outcome State Fault Refusal := .next (s.shiftPlace .rr (.atIX d) 4)

/-- `SLA (IX+d)`, rule R358. -/
def execSla_atIXd (d : Byte) (s : State) : Host.Outcome State Fault Refusal := .next (s.shiftPlace .sla (.atIX d) 4)

/-- `SRA (IX+d)`, rule R360. -/
def execSra_atIXd (d : Byte) (s : State) : Host.Outcome State Fault Refusal := .next (s.shiftPlace .sra (.atIX d) 4)

/-- `SLL (IX+d)`, rule R359. -/
def execSll_atIXd (d : Byte) (s : State) : Host.Outcome State Fault Refusal := .next (s.shiftPlace .sll (.atIX d) 4)

/-- `SRL (IX+d)`, rule R361. -/
def execSrl_atIXd (d : Byte) (s : State) : Host.Outcome State Fault Refusal := .next (s.shiftPlace .srl (.atIX d) 4)

/-- `RLC (IY+d)`, rule R354. -/
def execRlc_atIYd (d : Byte) (s : State) : Host.Outcome State Fault Refusal := .next (s.shiftPlace .rlc (.atIY d) 4)

/-- `RRC (IY+d)`, rule R356. -/
def execRrc_atIYd (d : Byte) (s : State) : Host.Outcome State Fault Refusal := .next (s.shiftPlace .rrc (.atIY d) 4)

/-- `RL (IY+d)`, rule R355. -/
def execRl_atIYd (d : Byte) (s : State) : Host.Outcome State Fault Refusal := .next (s.shiftPlace .rl (.atIY d) 4)

/-- `RR (IY+d)`, rule R357. -/
def execRr_atIYd (d : Byte) (s : State) : Host.Outcome State Fault Refusal := .next (s.shiftPlace .rr (.atIY d) 4)

/-- `SLA (IY+d)`, rule R358. -/
def execSla_atIYd (d : Byte) (s : State) : Host.Outcome State Fault Refusal := .next (s.shiftPlace .sla (.atIY d) 4)

/-- `SRA (IY+d)`, rule R360. -/
def execSra_atIYd (d : Byte) (s : State) : Host.Outcome State Fault Refusal := .next (s.shiftPlace .sra (.atIY d) 4)

/-- `SLL (IY+d)`, rule R359. -/
def execSll_atIYd (d : Byte) (s : State) : Host.Outcome State Fault Refusal := .next (s.shiftPlace .sll (.atIY d) 4)

/-- `SRL (IY+d)`, rule R361. -/
def execSrl_atIYd (d : Byte) (s : State) : Host.Outcome State Fault Refusal := .next (s.shiftPlace .srl (.atIY d) 4)

end Sys2Proof.Machine
end

