-- ==== Sys2Proof/Machine/System.lean ====
section
/-! DEFINITION. The meanings of `NOP`, `DI`, `EI`, `HALT` and `IM` (44_system.md, rules R250 to R254). None changes a
flag. -/

namespace Sys2Proof.Machine

/-- `DI` (rule R251): both enables are cleared. -/
def State.disableInterrupts (s : State) : State :=
  State.advance 1 { s with iff1 := false, iff2 := false }

/-- `EI` (rule R252): both enables are set, and the boundary right after accepts no maskable interrupt. -/
def State.enableInterrupts (s : State) : State :=
  State.advance 1 { s with iff1 := true, iff2 := true, eiShadow := true }

/-- `HALT` (rule R253). -/
def State.halt (s : State) : State := State.advance 1 { s with halted := true }

/-- `IM` (rule R254). -/
def State.setIntMode (m : IntMode) (s : State) : State := State.advance 2 { s with im := m }

/-! ### The meanings, one per instruction -/

/-- `NOP`, rule R250. -/
def execNop (s : State) : Host.Outcome State Fault Refusal := .next (s.advance 1)

/-- `HALT`, rule R253. -/
def execHalt (s : State) : Host.Outcome State Fault Refusal := .next (s.halt)

/-- `DI`, rule R251. -/
def execDi (s : State) : Host.Outcome State Fault Refusal := .next (s.disableInterrupts)

/-- `EI`, rule R252. -/
def execEi (s : State) : Host.Outcome State Fault Refusal := .next (s.enableInterrupts)

/-- `IM 0`, rule R254. -/
def execIm_0 (s : State) : Host.Outcome State Fault Refusal := .next (s.setIntMode .mode0)

/-- `IM 1`, rule R254. -/
def execIm_1 (s : State) : Host.Outcome State Fault Refusal := .next (s.setIntMode .mode1)

/-- `IM 2`, rule R254. -/
def execIm_2 (s : State) : Host.Outcome State Fault Refusal := .next (s.setIntMode .mode2)

end Sys2Proof.Machine
end

