-- ==== Sys2Proof/Machine/Dispatch.lean ====
section
/-! DEFINITION. One arm per constructor of `Instr`, each one call of the instruction's own meaning. -/

namespace Sys2Proof.Machine

def exec (i : Instr) (s : State) : Host.Outcome State Fault Refusal :=
  match i with
  | .nop => Sys2Proof.Machine.execNop s
  | .ex_AF_AFshadow => Sys2Proof.Machine.execEx_AF_AFshadow s
  | .djnz_e e => Sys2Proof.Machine.execDjnz_e e s
  | .jr_e e => Sys2Proof.Machine.execJr_e e s
  | .jr_NZ_e e => Sys2Proof.Machine.execJr_NZ_e e s
  | .jr_Z_e e => Sys2Proof.Machine.execJr_Z_e e s
  | .jr_NC_e e => Sys2Proof.Machine.execJr_NC_e e s
  | .jr_C_e e => Sys2Proof.Machine.execJr_C_e e s
  | .ld_BC_nn nn => Sys2Proof.Machine.execLd_BC_nn nn s
  | .add_HL_BC => Sys2Proof.Machine.execAdd_HL_BC s
  | .inc_BC => Sys2Proof.Machine.execInc_BC s
  | .dec_BC => Sys2Proof.Machine.execDec_BC s
  | .ld_DE_nn nn => Sys2Proof.Machine.execLd_DE_nn nn s
  | .add_HL_DE => Sys2Proof.Machine.execAdd_HL_DE s
  | .inc_DE => Sys2Proof.Machine.execInc_DE s
  | .dec_DE => Sys2Proof.Machine.execDec_DE s
  | .ld_HL_nn nn => Sys2Proof.Machine.execLd_HL_nn nn s
  | .add_HL_HL => Sys2Proof.Machine.execAdd_HL_HL s
  | .inc_HL => Sys2Proof.Machine.execInc_HL s
  | .dec_HL => Sys2Proof.Machine.execDec_HL s
  | .ld_SP_nn nn => Sys2Proof.Machine.execLd_SP_nn nn s
  | .add_HL_SP => Sys2Proof.Machine.execAdd_HL_SP s
  | .inc_SP => Sys2Proof.Machine.execInc_SP s
  | .dec_SP => Sys2Proof.Machine.execDec_SP s
  | .ld_atBC_A => Sys2Proof.Machine.execLd_atBC_A s
  | .ld_atDE_A => Sys2Proof.Machine.execLd_atDE_A s
  | .ld_atNn_HL nn => Sys2Proof.Machine.execLd_atNn_HL nn s
  | .ld_atNn_A nn => Sys2Proof.Machine.execLd_atNn_A nn s
  | .ld_A_atBC => Sys2Proof.Machine.execLd_A_atBC s
  | .ld_A_atDE => Sys2Proof.Machine.execLd_A_atDE s
  | .ld_HL_atNn nn => Sys2Proof.Machine.execLd_HL_atNn nn s
  | .ld_A_atNn nn => Sys2Proof.Machine.execLd_A_atNn nn s
  | .inc_B => Sys2Proof.Machine.execInc_B s
  | .dec_B => Sys2Proof.Machine.execDec_B s
  | .ld_B_n n => Sys2Proof.Machine.execLd_B_n n s
  | .inc_C => Sys2Proof.Machine.execInc_C s
  | .dec_C => Sys2Proof.Machine.execDec_C s
  | .ld_C_n n => Sys2Proof.Machine.execLd_C_n n s
  | .inc_D => Sys2Proof.Machine.execInc_D s
  | .dec_D => Sys2Proof.Machine.execDec_D s
  | .ld_D_n n => Sys2Proof.Machine.execLd_D_n n s
  | .inc_E => Sys2Proof.Machine.execInc_E s
  | .dec_E => Sys2Proof.Machine.execDec_E s
  | .ld_E_n n => Sys2Proof.Machine.execLd_E_n n s
  | .inc_H => Sys2Proof.Machine.execInc_H s
  | .dec_H => Sys2Proof.Machine.execDec_H s
  | .ld_H_n n => Sys2Proof.Machine.execLd_H_n n s
  | .inc_L => Sys2Proof.Machine.execInc_L s
  | .dec_L => Sys2Proof.Machine.execDec_L s
  | .ld_L_n n => Sys2Proof.Machine.execLd_L_n n s
  | .inc_atHL => Sys2Proof.Machine.execInc_atHL s
  | .dec_atHL => Sys2Proof.Machine.execDec_atHL s
  | .ld_atHL_n n => Sys2Proof.Machine.execLd_atHL_n n s
  | .inc_A => Sys2Proof.Machine.execInc_A s
  | .dec_A => Sys2Proof.Machine.execDec_A s
  | .ld_A_n n => Sys2Proof.Machine.execLd_A_n n s
  | .rlca => Sys2Proof.Machine.execRlca s
  | .rrca => Sys2Proof.Machine.execRrca s
  | .rla => Sys2Proof.Machine.execRla s
  | .rra => Sys2Proof.Machine.execRra s
  | .daa => Sys2Proof.Machine.execDaa s
  | .cpl => Sys2Proof.Machine.execCpl s
  | .scf => Sys2Proof.Machine.execScf s
  | .ccf => Sys2Proof.Machine.execCcf s
  | .ld_B_B => Sys2Proof.Machine.execLd_B_B s
  | .ld_B_C => Sys2Proof.Machine.execLd_B_C s
  | .ld_B_D => Sys2Proof.Machine.execLd_B_D s
  | .ld_B_E => Sys2Proof.Machine.execLd_B_E s
  | .ld_B_H => Sys2Proof.Machine.execLd_B_H s
  | .ld_B_L => Sys2Proof.Machine.execLd_B_L s
  | .ld_B_atHL => Sys2Proof.Machine.execLd_B_atHL s
  | .ld_B_A => Sys2Proof.Machine.execLd_B_A s
  | .ld_C_B => Sys2Proof.Machine.execLd_C_B s
  | .ld_C_C => Sys2Proof.Machine.execLd_C_C s
  | .ld_C_D => Sys2Proof.Machine.execLd_C_D s
  | .ld_C_E => Sys2Proof.Machine.execLd_C_E s
  | .ld_C_H => Sys2Proof.Machine.execLd_C_H s
  | .ld_C_L => Sys2Proof.Machine.execLd_C_L s
  | .ld_C_atHL => Sys2Proof.Machine.execLd_C_atHL s
  | .ld_C_A => Sys2Proof.Machine.execLd_C_A s
  | .ld_D_B => Sys2Proof.Machine.execLd_D_B s
  | .ld_D_C => Sys2Proof.Machine.execLd_D_C s
  | .ld_D_D => Sys2Proof.Machine.execLd_D_D s
  | .ld_D_E => Sys2Proof.Machine.execLd_D_E s
  | .ld_D_H => Sys2Proof.Machine.execLd_D_H s
  | .ld_D_L => Sys2Proof.Machine.execLd_D_L s
  | .ld_D_atHL => Sys2Proof.Machine.execLd_D_atHL s
  | .ld_D_A => Sys2Proof.Machine.execLd_D_A s
  | .ld_E_B => Sys2Proof.Machine.execLd_E_B s
  | .ld_E_C => Sys2Proof.Machine.execLd_E_C s
  | .ld_E_D => Sys2Proof.Machine.execLd_E_D s
  | .ld_E_E => Sys2Proof.Machine.execLd_E_E s
  | .ld_E_H => Sys2Proof.Machine.execLd_E_H s
  | .ld_E_L => Sys2Proof.Machine.execLd_E_L s
  | .ld_E_atHL => Sys2Proof.Machine.execLd_E_atHL s
  | .ld_E_A => Sys2Proof.Machine.execLd_E_A s
  | .ld_H_B => Sys2Proof.Machine.execLd_H_B s
  | .ld_H_C => Sys2Proof.Machine.execLd_H_C s
  | .ld_H_D => Sys2Proof.Machine.execLd_H_D s
  | .ld_H_E => Sys2Proof.Machine.execLd_H_E s
  | .ld_H_H => Sys2Proof.Machine.execLd_H_H s
  | .ld_H_L => Sys2Proof.Machine.execLd_H_L s
  | .ld_H_atHL => Sys2Proof.Machine.execLd_H_atHL s
  | .ld_H_A => Sys2Proof.Machine.execLd_H_A s
  | .ld_L_B => Sys2Proof.Machine.execLd_L_B s
  | .ld_L_C => Sys2Proof.Machine.execLd_L_C s
  | .ld_L_D => Sys2Proof.Machine.execLd_L_D s
  | .ld_L_E => Sys2Proof.Machine.execLd_L_E s
  | .ld_L_H => Sys2Proof.Machine.execLd_L_H s
  | .ld_L_L => Sys2Proof.Machine.execLd_L_L s
  | .ld_L_atHL => Sys2Proof.Machine.execLd_L_atHL s
  | .ld_L_A => Sys2Proof.Machine.execLd_L_A s
  | .ld_atHL_B => Sys2Proof.Machine.execLd_atHL_B s
  | .ld_atHL_C => Sys2Proof.Machine.execLd_atHL_C s
  | .ld_atHL_D => Sys2Proof.Machine.execLd_atHL_D s
  | .ld_atHL_E => Sys2Proof.Machine.execLd_atHL_E s
  | .ld_atHL_H => Sys2Proof.Machine.execLd_atHL_H s
  | .ld_atHL_L => Sys2Proof.Machine.execLd_atHL_L s
  | .halt => Sys2Proof.Machine.execHalt s
  | .ld_atHL_A => Sys2Proof.Machine.execLd_atHL_A s
  | .ld_A_B => Sys2Proof.Machine.execLd_A_B s
  | .ld_A_C => Sys2Proof.Machine.execLd_A_C s
  | .ld_A_D => Sys2Proof.Machine.execLd_A_D s
  | .ld_A_E => Sys2Proof.Machine.execLd_A_E s
  | .ld_A_H => Sys2Proof.Machine.execLd_A_H s
  | .ld_A_L => Sys2Proof.Machine.execLd_A_L s
  | .ld_A_atHL => Sys2Proof.Machine.execLd_A_atHL s
  | .ld_A_A => Sys2Proof.Machine.execLd_A_A s
  | .add_A_B => Sys2Proof.Machine.execAdd_A_B s
  | .add_A_C => Sys2Proof.Machine.execAdd_A_C s
  | .add_A_D => Sys2Proof.Machine.execAdd_A_D s
  | .add_A_E => Sys2Proof.Machine.execAdd_A_E s
  | .add_A_H => Sys2Proof.Machine.execAdd_A_H s
  | .add_A_L => Sys2Proof.Machine.execAdd_A_L s
  | .add_A_atHL => Sys2Proof.Machine.execAdd_A_atHL s
  | .add_A_A => Sys2Proof.Machine.execAdd_A_A s
  | .add_A_n n => Sys2Proof.Machine.execAdd_A_n n s
  | .adc_A_B => Sys2Proof.Machine.execAdc_A_B s
  | .adc_A_C => Sys2Proof.Machine.execAdc_A_C s
  | .adc_A_D => Sys2Proof.Machine.execAdc_A_D s
  | .adc_A_E => Sys2Proof.Machine.execAdc_A_E s
  | .adc_A_H => Sys2Proof.Machine.execAdc_A_H s
  | .adc_A_L => Sys2Proof.Machine.execAdc_A_L s
  | .adc_A_atHL => Sys2Proof.Machine.execAdc_A_atHL s
  | .adc_A_A => Sys2Proof.Machine.execAdc_A_A s
  | .adc_A_n n => Sys2Proof.Machine.execAdc_A_n n s
  | .sub_B => Sys2Proof.Machine.execSub_B s
  | .sub_C => Sys2Proof.Machine.execSub_C s
  | .sub_D => Sys2Proof.Machine.execSub_D s
  | .sub_E => Sys2Proof.Machine.execSub_E s
  | .sub_H => Sys2Proof.Machine.execSub_H s
  | .sub_L => Sys2Proof.Machine.execSub_L s
  | .sub_atHL => Sys2Proof.Machine.execSub_atHL s
  | .sub_A => Sys2Proof.Machine.execSub_A s
  | .sub_n n => Sys2Proof.Machine.execSub_n n s
  | .sbc_A_B => Sys2Proof.Machine.execSbc_A_B s
  | .sbc_A_C => Sys2Proof.Machine.execSbc_A_C s
  | .sbc_A_D => Sys2Proof.Machine.execSbc_A_D s
  | .sbc_A_E => Sys2Proof.Machine.execSbc_A_E s
  | .sbc_A_H => Sys2Proof.Machine.execSbc_A_H s
  | .sbc_A_L => Sys2Proof.Machine.execSbc_A_L s
  | .sbc_A_atHL => Sys2Proof.Machine.execSbc_A_atHL s
  | .sbc_A_A => Sys2Proof.Machine.execSbc_A_A s
  | .sbc_A_n n => Sys2Proof.Machine.execSbc_A_n n s
  | .and_B => Sys2Proof.Machine.execAnd_B s
  | .and_C => Sys2Proof.Machine.execAnd_C s
  | .and_D => Sys2Proof.Machine.execAnd_D s
  | .and_E => Sys2Proof.Machine.execAnd_E s
  | .and_H => Sys2Proof.Machine.execAnd_H s
  | .and_L => Sys2Proof.Machine.execAnd_L s
  | .and_atHL => Sys2Proof.Machine.execAnd_atHL s
  | .and_A => Sys2Proof.Machine.execAnd_A s
  | .and_n n => Sys2Proof.Machine.execAnd_n n s
  | .xor_B => Sys2Proof.Machine.execXor_B s
  | .xor_C => Sys2Proof.Machine.execXor_C s
  | .xor_D => Sys2Proof.Machine.execXor_D s
  | .xor_E => Sys2Proof.Machine.execXor_E s
  | .xor_H => Sys2Proof.Machine.execXor_H s
  | .xor_L => Sys2Proof.Machine.execXor_L s
  | .xor_atHL => Sys2Proof.Machine.execXor_atHL s
  | .xor_A => Sys2Proof.Machine.execXor_A s
  | .xor_n n => Sys2Proof.Machine.execXor_n n s
  | .or_B => Sys2Proof.Machine.execOr_B s
  | .or_C => Sys2Proof.Machine.execOr_C s
  | .or_D => Sys2Proof.Machine.execOr_D s
  | .or_E => Sys2Proof.Machine.execOr_E s
  | .or_H => Sys2Proof.Machine.execOr_H s
  | .or_L => Sys2Proof.Machine.execOr_L s
  | .or_atHL => Sys2Proof.Machine.execOr_atHL s
  | .or_A => Sys2Proof.Machine.execOr_A s
  | .or_n n => Sys2Proof.Machine.execOr_n n s
  | .cp_B => Sys2Proof.Machine.execCp_B s
  | .cp_C => Sys2Proof.Machine.execCp_C s
  | .cp_D => Sys2Proof.Machine.execCp_D s
  | .cp_E => Sys2Proof.Machine.execCp_E s
  | .cp_H => Sys2Proof.Machine.execCp_H s
  | .cp_L => Sys2Proof.Machine.execCp_L s
  | .cp_atHL => Sys2Proof.Machine.execCp_atHL s
  | .cp_A => Sys2Proof.Machine.execCp_A s
  | .cp_n n => Sys2Proof.Machine.execCp_n n s
  | .ret_NZ => Sys2Proof.Machine.execRet_NZ s
  | .jp_NZ_nn nn => Sys2Proof.Machine.execJp_NZ_nn nn s
  | .call_NZ_nn nn => Sys2Proof.Machine.execCall_NZ_nn nn s
  | .rst_00 => Sys2Proof.Machine.execRst_00 s
  | .ret_Z => Sys2Proof.Machine.execRet_Z s
  | .jp_Z_nn nn => Sys2Proof.Machine.execJp_Z_nn nn s
  | .call_Z_nn nn => Sys2Proof.Machine.execCall_Z_nn nn s
  | .rst_08 => Sys2Proof.Machine.execRst_08 s
  | .ret_NC => Sys2Proof.Machine.execRet_NC s
  | .jp_NC_nn nn => Sys2Proof.Machine.execJp_NC_nn nn s
  | .call_NC_nn nn => Sys2Proof.Machine.execCall_NC_nn nn s
  | .rst_10 => Sys2Proof.Machine.execRst_10 s
  | .ret_C => Sys2Proof.Machine.execRet_C s
  | .jp_C_nn nn => Sys2Proof.Machine.execJp_C_nn nn s
  | .call_C_nn nn => Sys2Proof.Machine.execCall_C_nn nn s
  | .rst_18 => Sys2Proof.Machine.execRst_18 s
  | .ret_PO => Sys2Proof.Machine.execRet_PO s
  | .jp_PO_nn nn => Sys2Proof.Machine.execJp_PO_nn nn s
  | .call_PO_nn nn => Sys2Proof.Machine.execCall_PO_nn nn s
  | .rst_20 => Sys2Proof.Machine.execRst_20 s
  | .ret_PE => Sys2Proof.Machine.execRet_PE s
  | .jp_PE_nn nn => Sys2Proof.Machine.execJp_PE_nn nn s
  | .call_PE_nn nn => Sys2Proof.Machine.execCall_PE_nn nn s
  | .rst_28 => Sys2Proof.Machine.execRst_28 s
  | .ret_P => Sys2Proof.Machine.execRet_P s
  | .jp_P_nn nn => Sys2Proof.Machine.execJp_P_nn nn s
  | .call_P_nn nn => Sys2Proof.Machine.execCall_P_nn nn s
  | .rst_30 => Sys2Proof.Machine.execRst_30 s
  | .ret_M => Sys2Proof.Machine.execRet_M s
  | .jp_M_nn nn => Sys2Proof.Machine.execJp_M_nn nn s
  | .call_M_nn nn => Sys2Proof.Machine.execCall_M_nn nn s
  | .rst_38 => Sys2Proof.Machine.execRst_38 s
  | .pop_BC => Sys2Proof.Machine.execPop_BC s
  | .push_BC => Sys2Proof.Machine.execPush_BC s
  | .pop_DE => Sys2Proof.Machine.execPop_DE s
  | .push_DE => Sys2Proof.Machine.execPush_DE s
  | .pop_HL => Sys2Proof.Machine.execPop_HL s
  | .push_HL => Sys2Proof.Machine.execPush_HL s
  | .pop_AF => Sys2Proof.Machine.execPop_AF s
  | .push_AF => Sys2Proof.Machine.execPush_AF s
  | .ret => Sys2Proof.Machine.execRet s
  | .exx => Sys2Proof.Machine.execExx s
  | .jp_HL => Sys2Proof.Machine.execJp_HL s
  | .ld_SP_HL => Sys2Proof.Machine.execLd_SP_HL s
  | .jp_nn nn => Sys2Proof.Machine.execJp_nn nn s
  | .out_atN_A n => Sys2Proof.Machine.execOut_atN_A n s
  | .in_A_atN n => Sys2Proof.Machine.execIn_A_atN n s
  | .ex_atSP_HL => Sys2Proof.Machine.execEx_atSP_HL s
  | .ex_DE_HL => Sys2Proof.Machine.execEx_DE_HL s
  | .di => Sys2Proof.Machine.execDi s
  | .ei => Sys2Proof.Machine.execEi s
  | .call_nn nn => Sys2Proof.Machine.execCall_nn nn s
  | .rlc_B => Sys2Proof.Machine.execRlc_B s
  | .rlc_C => Sys2Proof.Machine.execRlc_C s
  | .rlc_D => Sys2Proof.Machine.execRlc_D s
  | .rlc_E => Sys2Proof.Machine.execRlc_E s
  | .rlc_H => Sys2Proof.Machine.execRlc_H s
  | .rlc_L => Sys2Proof.Machine.execRlc_L s
  | .rlc_atHL => Sys2Proof.Machine.execRlc_atHL s
  | .rlc_A => Sys2Proof.Machine.execRlc_A s
  | .rrc_B => Sys2Proof.Machine.execRrc_B s
  | .rrc_C => Sys2Proof.Machine.execRrc_C s
  | .rrc_D => Sys2Proof.Machine.execRrc_D s
  | .rrc_E => Sys2Proof.Machine.execRrc_E s
  | .rrc_H => Sys2Proof.Machine.execRrc_H s
  | .rrc_L => Sys2Proof.Machine.execRrc_L s
  | .rrc_atHL => Sys2Proof.Machine.execRrc_atHL s
  | .rrc_A => Sys2Proof.Machine.execRrc_A s
  | .rl_B => Sys2Proof.Machine.execRl_B s
  | .rl_C => Sys2Proof.Machine.execRl_C s
  | .rl_D => Sys2Proof.Machine.execRl_D s
  | .rl_E => Sys2Proof.Machine.execRl_E s
  | .rl_H => Sys2Proof.Machine.execRl_H s
  | .rl_L => Sys2Proof.Machine.execRl_L s
  | .rl_atHL => Sys2Proof.Machine.execRl_atHL s
  | .rl_A => Sys2Proof.Machine.execRl_A s
  | .rr_B => Sys2Proof.Machine.execRr_B s
  | .rr_C => Sys2Proof.Machine.execRr_C s
  | .rr_D => Sys2Proof.Machine.execRr_D s
  | .rr_E => Sys2Proof.Machine.execRr_E s
  | .rr_H => Sys2Proof.Machine.execRr_H s
  | .rr_L => Sys2Proof.Machine.execRr_L s
  | .rr_atHL => Sys2Proof.Machine.execRr_atHL s
  | .rr_A => Sys2Proof.Machine.execRr_A s
  | .sla_B => Sys2Proof.Machine.execSla_B s
  | .sla_C => Sys2Proof.Machine.execSla_C s
  | .sla_D => Sys2Proof.Machine.execSla_D s
  | .sla_E => Sys2Proof.Machine.execSla_E s
  | .sla_H => Sys2Proof.Machine.execSla_H s
  | .sla_L => Sys2Proof.Machine.execSla_L s
  | .sla_atHL => Sys2Proof.Machine.execSla_atHL s
  | .sla_A => Sys2Proof.Machine.execSla_A s
  | .sra_B => Sys2Proof.Machine.execSra_B s
  | .sra_C => Sys2Proof.Machine.execSra_C s
  | .sra_D => Sys2Proof.Machine.execSra_D s
  | .sra_E => Sys2Proof.Machine.execSra_E s
  | .sra_H => Sys2Proof.Machine.execSra_H s
  | .sra_L => Sys2Proof.Machine.execSra_L s
  | .sra_atHL => Sys2Proof.Machine.execSra_atHL s
  | .sra_A => Sys2Proof.Machine.execSra_A s
  | .sll_B => Sys2Proof.Machine.execSll_B s
  | .sll_C => Sys2Proof.Machine.execSll_C s
  | .sll_D => Sys2Proof.Machine.execSll_D s
  | .sll_E => Sys2Proof.Machine.execSll_E s
  | .sll_H => Sys2Proof.Machine.execSll_H s
  | .sll_L => Sys2Proof.Machine.execSll_L s
  | .sll_atHL => Sys2Proof.Machine.execSll_atHL s
  | .sll_A => Sys2Proof.Machine.execSll_A s
  | .srl_B => Sys2Proof.Machine.execSrl_B s
  | .srl_C => Sys2Proof.Machine.execSrl_C s
  | .srl_D => Sys2Proof.Machine.execSrl_D s
  | .srl_E => Sys2Proof.Machine.execSrl_E s
  | .srl_H => Sys2Proof.Machine.execSrl_H s
  | .srl_L => Sys2Proof.Machine.execSrl_L s
  | .srl_atHL => Sys2Proof.Machine.execSrl_atHL s
  | .srl_A => Sys2Proof.Machine.execSrl_A s
  | .bit_b_B b => Sys2Proof.Machine.execBit_b_B b s
  | .bit_b_C b => Sys2Proof.Machine.execBit_b_C b s
  | .bit_b_D b => Sys2Proof.Machine.execBit_b_D b s
  | .bit_b_E b => Sys2Proof.Machine.execBit_b_E b s
  | .bit_b_H b => Sys2Proof.Machine.execBit_b_H b s
  | .bit_b_L b => Sys2Proof.Machine.execBit_b_L b s
  | .bit_b_atHL b => Sys2Proof.Machine.execBit_b_atHL b s
  | .bit_b_A b => Sys2Proof.Machine.execBit_b_A b s
  | .res_b_B b => Sys2Proof.Machine.execRes_b_B b s
  | .res_b_C b => Sys2Proof.Machine.execRes_b_C b s
  | .res_b_D b => Sys2Proof.Machine.execRes_b_D b s
  | .res_b_E b => Sys2Proof.Machine.execRes_b_E b s
  | .res_b_H b => Sys2Proof.Machine.execRes_b_H b s
  | .res_b_L b => Sys2Proof.Machine.execRes_b_L b s
  | .res_b_atHL b => Sys2Proof.Machine.execRes_b_atHL b s
  | .res_b_A b => Sys2Proof.Machine.execRes_b_A b s
  | .set_b_B b => Sys2Proof.Machine.execSet_b_B b s
  | .set_b_C b => Sys2Proof.Machine.execSet_b_C b s
  | .set_b_D b => Sys2Proof.Machine.execSet_b_D b s
  | .set_b_E b => Sys2Proof.Machine.execSet_b_E b s
  | .set_b_H b => Sys2Proof.Machine.execSet_b_H b s
  | .set_b_L b => Sys2Proof.Machine.execSet_b_L b s
  | .set_b_atHL b => Sys2Proof.Machine.execSet_b_atHL b s
  | .set_b_A b => Sys2Proof.Machine.execSet_b_A b s
  | .in_B_atC => Sys2Proof.Machine.execIn_B_atC s
  | .out_atC_B => Sys2Proof.Machine.execOut_atC_B s
  | .in_C_atC => Sys2Proof.Machine.execIn_C_atC s
  | .out_atC_C => Sys2Proof.Machine.execOut_atC_C s
  | .in_D_atC => Sys2Proof.Machine.execIn_D_atC s
  | .out_atC_D => Sys2Proof.Machine.execOut_atC_D s
  | .in_E_atC => Sys2Proof.Machine.execIn_E_atC s
  | .out_atC_E => Sys2Proof.Machine.execOut_atC_E s
  | .in_H_atC => Sys2Proof.Machine.execIn_H_atC s
  | .out_atC_H => Sys2Proof.Machine.execOut_atC_H s
  | .in_L_atC => Sys2Proof.Machine.execIn_L_atC s
  | .out_atC_L => Sys2Proof.Machine.execOut_atC_L s
  | .in_atC => Sys2Proof.Machine.execIn_atC s
  | .out_atC_0 => Sys2Proof.Machine.execOut_atC_0 s
  | .in_A_atC => Sys2Proof.Machine.execIn_A_atC s
  | .out_atC_A => Sys2Proof.Machine.execOut_atC_A s
  | .sbc_HL_BC => Sys2Proof.Machine.execSbc_HL_BC s
  | .adc_HL_BC => Sys2Proof.Machine.execAdc_HL_BC s
  | .ld_atNn_BC nn => Sys2Proof.Machine.execLd_atNn_BC nn s
  | .ld_BC_atNn nn => Sys2Proof.Machine.execLd_BC_atNn nn s
  | .sbc_HL_DE => Sys2Proof.Machine.execSbc_HL_DE s
  | .adc_HL_DE => Sys2Proof.Machine.execAdc_HL_DE s
  | .ld_atNn_DE nn => Sys2Proof.Machine.execLd_atNn_DE nn s
  | .ld_DE_atNn nn => Sys2Proof.Machine.execLd_DE_atNn nn s
  | .sbc_HL_HL => Sys2Proof.Machine.execSbc_HL_HL s
  | .adc_HL_HL => Sys2Proof.Machine.execAdc_HL_HL s
  | .ld_atNn_HL_ed nn => Sys2Proof.Machine.execLd_atNn_HL_ed nn s
  | .ld_HL_atNn_ed nn => Sys2Proof.Machine.execLd_HL_atNn_ed nn s
  | .sbc_HL_SP => Sys2Proof.Machine.execSbc_HL_SP s
  | .adc_HL_SP => Sys2Proof.Machine.execAdc_HL_SP s
  | .ld_atNn_SP nn => Sys2Proof.Machine.execLd_atNn_SP nn s
  | .ld_SP_atNn nn => Sys2Proof.Machine.execLd_SP_atNn nn s
  | .neg => Sys2Proof.Machine.execNeg s
  | .retn => Sys2Proof.Machine.execRetn s
  | .reti => Sys2Proof.Machine.execReti s
  | .im_0 => Sys2Proof.Machine.execIm_0 s
  | .im_1 => Sys2Proof.Machine.execIm_1 s
  | .im_2 => Sys2Proof.Machine.execIm_2 s
  | .ld_I_A => Sys2Proof.Machine.execLd_I_A s
  | .ld_R_A => Sys2Proof.Machine.execLd_R_A s
  | .ld_A_I => Sys2Proof.Machine.execLd_A_I s
  | .ld_A_R => Sys2Proof.Machine.execLd_A_R s
  | .rrd => Sys2Proof.Machine.execRrd s
  | .rld => Sys2Proof.Machine.execRld s
  | .ldi => Sys2Proof.Machine.execLdi s
  | .cpi => Sys2Proof.Machine.execCpi s
  | .ini => Sys2Proof.Machine.execIni s
  | .outi => Sys2Proof.Machine.execOuti s
  | .ldd => Sys2Proof.Machine.execLdd s
  | .cpd => Sys2Proof.Machine.execCpd s
  | .ind => Sys2Proof.Machine.execInd s
  | .outd => Sys2Proof.Machine.execOutd s
  | .ldir => Sys2Proof.Machine.execLdir s
  | .cpir => Sys2Proof.Machine.execCpir s
  | .inir => Sys2Proof.Machine.execInir s
  | .otir => Sys2Proof.Machine.execOtir s
  | .lddr => Sys2Proof.Machine.execLddr s
  | .cpdr => Sys2Proof.Machine.execCpdr s
  | .indr => Sys2Proof.Machine.execIndr s
  | .otdr => Sys2Proof.Machine.execOtdr s
  | .add_IX_BC => Sys2Proof.Machine.execAdd_IX_BC s
  | .add_IX_DE => Sys2Proof.Machine.execAdd_IX_DE s
  | .add_IX_IX => Sys2Proof.Machine.execAdd_IX_IX s
  | .add_IX_SP => Sys2Proof.Machine.execAdd_IX_SP s
  | .ld_IX_nn nn => Sys2Proof.Machine.execLd_IX_nn nn s
  | .ld_atNn_IX nn => Sys2Proof.Machine.execLd_atNn_IX nn s
  | .ld_IX_atNn nn => Sys2Proof.Machine.execLd_IX_atNn nn s
  | .inc_IX => Sys2Proof.Machine.execInc_IX s
  | .dec_IX => Sys2Proof.Machine.execDec_IX s
  | .inc_IXH => Sys2Proof.Machine.execInc_IXH s
  | .dec_IXH => Sys2Proof.Machine.execDec_IXH s
  | .ld_IXH_n n => Sys2Proof.Machine.execLd_IXH_n n s
  | .inc_IXL => Sys2Proof.Machine.execInc_IXL s
  | .dec_IXL => Sys2Proof.Machine.execDec_IXL s
  | .ld_IXL_n n => Sys2Proof.Machine.execLd_IXL_n n s
  | .inc_atIXd d => Sys2Proof.Machine.execInc_atIXd d s
  | .dec_atIXd d => Sys2Proof.Machine.execDec_atIXd d s
  | .ld_atIXd_n d n => Sys2Proof.Machine.execLd_atIXd_n d n s
  | .ld_B_IXH => Sys2Proof.Machine.execLd_B_IXH s
  | .ld_B_IXL => Sys2Proof.Machine.execLd_B_IXL s
  | .ld_B_atIXd d => Sys2Proof.Machine.execLd_B_atIXd d s
  | .ld_C_IXH => Sys2Proof.Machine.execLd_C_IXH s
  | .ld_C_IXL => Sys2Proof.Machine.execLd_C_IXL s
  | .ld_C_atIXd d => Sys2Proof.Machine.execLd_C_atIXd d s
  | .ld_D_IXH => Sys2Proof.Machine.execLd_D_IXH s
  | .ld_D_IXL => Sys2Proof.Machine.execLd_D_IXL s
  | .ld_D_atIXd d => Sys2Proof.Machine.execLd_D_atIXd d s
  | .ld_E_IXH => Sys2Proof.Machine.execLd_E_IXH s
  | .ld_E_IXL => Sys2Proof.Machine.execLd_E_IXL s
  | .ld_E_atIXd d => Sys2Proof.Machine.execLd_E_atIXd d s
  | .ld_IXH_B => Sys2Proof.Machine.execLd_IXH_B s
  | .ld_IXH_C => Sys2Proof.Machine.execLd_IXH_C s
  | .ld_IXH_D => Sys2Proof.Machine.execLd_IXH_D s
  | .ld_IXH_E => Sys2Proof.Machine.execLd_IXH_E s
  | .ld_IXH_IXH => Sys2Proof.Machine.execLd_IXH_IXH s
  | .ld_IXH_IXL => Sys2Proof.Machine.execLd_IXH_IXL s
  | .ld_H_atIXd d => Sys2Proof.Machine.execLd_H_atIXd d s
  | .ld_IXH_A => Sys2Proof.Machine.execLd_IXH_A s
  | .ld_IXL_B => Sys2Proof.Machine.execLd_IXL_B s
  | .ld_IXL_C => Sys2Proof.Machine.execLd_IXL_C s
  | .ld_IXL_D => Sys2Proof.Machine.execLd_IXL_D s
  | .ld_IXL_E => Sys2Proof.Machine.execLd_IXL_E s
  | .ld_IXL_IXH => Sys2Proof.Machine.execLd_IXL_IXH s
  | .ld_IXL_IXL => Sys2Proof.Machine.execLd_IXL_IXL s
  | .ld_L_atIXd d => Sys2Proof.Machine.execLd_L_atIXd d s
  | .ld_IXL_A => Sys2Proof.Machine.execLd_IXL_A s
  | .ld_atIXd_B d => Sys2Proof.Machine.execLd_atIXd_B d s
  | .ld_atIXd_C d => Sys2Proof.Machine.execLd_atIXd_C d s
  | .ld_atIXd_D d => Sys2Proof.Machine.execLd_atIXd_D d s
  | .ld_atIXd_E d => Sys2Proof.Machine.execLd_atIXd_E d s
  | .ld_atIXd_H d => Sys2Proof.Machine.execLd_atIXd_H d s
  | .ld_atIXd_L d => Sys2Proof.Machine.execLd_atIXd_L d s
  | .ld_atIXd_A d => Sys2Proof.Machine.execLd_atIXd_A d s
  | .ld_A_IXH => Sys2Proof.Machine.execLd_A_IXH s
  | .ld_A_IXL => Sys2Proof.Machine.execLd_A_IXL s
  | .ld_A_atIXd d => Sys2Proof.Machine.execLd_A_atIXd d s
  | .add_A_IXH => Sys2Proof.Machine.execAdd_A_IXH s
  | .add_A_IXL => Sys2Proof.Machine.execAdd_A_IXL s
  | .add_A_atIXd d => Sys2Proof.Machine.execAdd_A_atIXd d s
  | .adc_A_IXH => Sys2Proof.Machine.execAdc_A_IXH s
  | .adc_A_IXL => Sys2Proof.Machine.execAdc_A_IXL s
  | .adc_A_atIXd d => Sys2Proof.Machine.execAdc_A_atIXd d s
  | .sub_IXH => Sys2Proof.Machine.execSub_IXH s
  | .sub_IXL => Sys2Proof.Machine.execSub_IXL s
  | .sub_atIXd d => Sys2Proof.Machine.execSub_atIXd d s
  | .sbc_A_IXH => Sys2Proof.Machine.execSbc_A_IXH s
  | .sbc_A_IXL => Sys2Proof.Machine.execSbc_A_IXL s
  | .sbc_A_atIXd d => Sys2Proof.Machine.execSbc_A_atIXd d s
  | .and_IXH => Sys2Proof.Machine.execAnd_IXH s
  | .and_IXL => Sys2Proof.Machine.execAnd_IXL s
  | .and_atIXd d => Sys2Proof.Machine.execAnd_atIXd d s
  | .xor_IXH => Sys2Proof.Machine.execXor_IXH s
  | .xor_IXL => Sys2Proof.Machine.execXor_IXL s
  | .xor_atIXd d => Sys2Proof.Machine.execXor_atIXd d s
  | .or_IXH => Sys2Proof.Machine.execOr_IXH s
  | .or_IXL => Sys2Proof.Machine.execOr_IXL s
  | .or_atIXd d => Sys2Proof.Machine.execOr_atIXd d s
  | .cp_IXH => Sys2Proof.Machine.execCp_IXH s
  | .cp_IXL => Sys2Proof.Machine.execCp_IXL s
  | .cp_atIXd d => Sys2Proof.Machine.execCp_atIXd d s
  | .pop_IX => Sys2Proof.Machine.execPop_IX s
  | .push_IX => Sys2Proof.Machine.execPush_IX s
  | .ex_atSP_IX => Sys2Proof.Machine.execEx_atSP_IX s
  | .jp_IX => Sys2Proof.Machine.execJp_IX s
  | .ld_SP_IX => Sys2Proof.Machine.execLd_SP_IX s
  | .rlc_atIXd d => Sys2Proof.Machine.execRlc_atIXd d s
  | .rrc_atIXd d => Sys2Proof.Machine.execRrc_atIXd d s
  | .rl_atIXd d => Sys2Proof.Machine.execRl_atIXd d s
  | .rr_atIXd d => Sys2Proof.Machine.execRr_atIXd d s
  | .sla_atIXd d => Sys2Proof.Machine.execSla_atIXd d s
  | .sra_atIXd d => Sys2Proof.Machine.execSra_atIXd d s
  | .sll_atIXd d => Sys2Proof.Machine.execSll_atIXd d s
  | .srl_atIXd d => Sys2Proof.Machine.execSrl_atIXd d s
  | .bit_b_atIXd b d => Sys2Proof.Machine.execBit_b_atIXd b d s
  | .res_b_atIXd b d => Sys2Proof.Machine.execRes_b_atIXd b d s
  | .set_b_atIXd b d => Sys2Proof.Machine.execSet_b_atIXd b d s
  | .add_IY_BC => Sys2Proof.Machine.execAdd_IY_BC s
  | .add_IY_DE => Sys2Proof.Machine.execAdd_IY_DE s
  | .add_IY_IY => Sys2Proof.Machine.execAdd_IY_IY s
  | .add_IY_SP => Sys2Proof.Machine.execAdd_IY_SP s
  | .ld_IY_nn nn => Sys2Proof.Machine.execLd_IY_nn nn s
  | .ld_atNn_IY nn => Sys2Proof.Machine.execLd_atNn_IY nn s
  | .ld_IY_atNn nn => Sys2Proof.Machine.execLd_IY_atNn nn s
  | .inc_IY => Sys2Proof.Machine.execInc_IY s
  | .dec_IY => Sys2Proof.Machine.execDec_IY s
  | .inc_IYH => Sys2Proof.Machine.execInc_IYH s
  | .dec_IYH => Sys2Proof.Machine.execDec_IYH s
  | .ld_IYH_n n => Sys2Proof.Machine.execLd_IYH_n n s
  | .inc_IYL => Sys2Proof.Machine.execInc_IYL s
  | .dec_IYL => Sys2Proof.Machine.execDec_IYL s
  | .ld_IYL_n n => Sys2Proof.Machine.execLd_IYL_n n s
  | .inc_atIYd d => Sys2Proof.Machine.execInc_atIYd d s
  | .dec_atIYd d => Sys2Proof.Machine.execDec_atIYd d s
  | .ld_atIYd_n d n => Sys2Proof.Machine.execLd_atIYd_n d n s
  | .ld_B_IYH => Sys2Proof.Machine.execLd_B_IYH s
  | .ld_B_IYL => Sys2Proof.Machine.execLd_B_IYL s
  | .ld_B_atIYd d => Sys2Proof.Machine.execLd_B_atIYd d s
  | .ld_C_IYH => Sys2Proof.Machine.execLd_C_IYH s
  | .ld_C_IYL => Sys2Proof.Machine.execLd_C_IYL s
  | .ld_C_atIYd d => Sys2Proof.Machine.execLd_C_atIYd d s
  | .ld_D_IYH => Sys2Proof.Machine.execLd_D_IYH s
  | .ld_D_IYL => Sys2Proof.Machine.execLd_D_IYL s
  | .ld_D_atIYd d => Sys2Proof.Machine.execLd_D_atIYd d s
  | .ld_E_IYH => Sys2Proof.Machine.execLd_E_IYH s
  | .ld_E_IYL => Sys2Proof.Machine.execLd_E_IYL s
  | .ld_E_atIYd d => Sys2Proof.Machine.execLd_E_atIYd d s
  | .ld_IYH_B => Sys2Proof.Machine.execLd_IYH_B s
  | .ld_IYH_C => Sys2Proof.Machine.execLd_IYH_C s
  | .ld_IYH_D => Sys2Proof.Machine.execLd_IYH_D s
  | .ld_IYH_E => Sys2Proof.Machine.execLd_IYH_E s
  | .ld_IYH_IYH => Sys2Proof.Machine.execLd_IYH_IYH s
  | .ld_IYH_IYL => Sys2Proof.Machine.execLd_IYH_IYL s
  | .ld_H_atIYd d => Sys2Proof.Machine.execLd_H_atIYd d s
  | .ld_IYH_A => Sys2Proof.Machine.execLd_IYH_A s
  | .ld_IYL_B => Sys2Proof.Machine.execLd_IYL_B s
  | .ld_IYL_C => Sys2Proof.Machine.execLd_IYL_C s
  | .ld_IYL_D => Sys2Proof.Machine.execLd_IYL_D s
  | .ld_IYL_E => Sys2Proof.Machine.execLd_IYL_E s
  | .ld_IYL_IYH => Sys2Proof.Machine.execLd_IYL_IYH s
  | .ld_IYL_IYL => Sys2Proof.Machine.execLd_IYL_IYL s
  | .ld_L_atIYd d => Sys2Proof.Machine.execLd_L_atIYd d s
  | .ld_IYL_A => Sys2Proof.Machine.execLd_IYL_A s
  | .ld_atIYd_B d => Sys2Proof.Machine.execLd_atIYd_B d s
  | .ld_atIYd_C d => Sys2Proof.Machine.execLd_atIYd_C d s
  | .ld_atIYd_D d => Sys2Proof.Machine.execLd_atIYd_D d s
  | .ld_atIYd_E d => Sys2Proof.Machine.execLd_atIYd_E d s
  | .ld_atIYd_H d => Sys2Proof.Machine.execLd_atIYd_H d s
  | .ld_atIYd_L d => Sys2Proof.Machine.execLd_atIYd_L d s
  | .ld_atIYd_A d => Sys2Proof.Machine.execLd_atIYd_A d s
  | .ld_A_IYH => Sys2Proof.Machine.execLd_A_IYH s
  | .ld_A_IYL => Sys2Proof.Machine.execLd_A_IYL s
  | .ld_A_atIYd d => Sys2Proof.Machine.execLd_A_atIYd d s
  | .add_A_IYH => Sys2Proof.Machine.execAdd_A_IYH s
  | .add_A_IYL => Sys2Proof.Machine.execAdd_A_IYL s
  | .add_A_atIYd d => Sys2Proof.Machine.execAdd_A_atIYd d s
  | .adc_A_IYH => Sys2Proof.Machine.execAdc_A_IYH s
  | .adc_A_IYL => Sys2Proof.Machine.execAdc_A_IYL s
  | .adc_A_atIYd d => Sys2Proof.Machine.execAdc_A_atIYd d s
  | .sub_IYH => Sys2Proof.Machine.execSub_IYH s
  | .sub_IYL => Sys2Proof.Machine.execSub_IYL s
  | .sub_atIYd d => Sys2Proof.Machine.execSub_atIYd d s
  | .sbc_A_IYH => Sys2Proof.Machine.execSbc_A_IYH s
  | .sbc_A_IYL => Sys2Proof.Machine.execSbc_A_IYL s
  | .sbc_A_atIYd d => Sys2Proof.Machine.execSbc_A_atIYd d s
  | .and_IYH => Sys2Proof.Machine.execAnd_IYH s
  | .and_IYL => Sys2Proof.Machine.execAnd_IYL s
  | .and_atIYd d => Sys2Proof.Machine.execAnd_atIYd d s
  | .xor_IYH => Sys2Proof.Machine.execXor_IYH s
  | .xor_IYL => Sys2Proof.Machine.execXor_IYL s
  | .xor_atIYd d => Sys2Proof.Machine.execXor_atIYd d s
  | .or_IYH => Sys2Proof.Machine.execOr_IYH s
  | .or_IYL => Sys2Proof.Machine.execOr_IYL s
  | .or_atIYd d => Sys2Proof.Machine.execOr_atIYd d s
  | .cp_IYH => Sys2Proof.Machine.execCp_IYH s
  | .cp_IYL => Sys2Proof.Machine.execCp_IYL s
  | .cp_atIYd d => Sys2Proof.Machine.execCp_atIYd d s
  | .pop_IY => Sys2Proof.Machine.execPop_IY s
  | .push_IY => Sys2Proof.Machine.execPush_IY s
  | .ex_atSP_IY => Sys2Proof.Machine.execEx_atSP_IY s
  | .jp_IY => Sys2Proof.Machine.execJp_IY s
  | .ld_SP_IY => Sys2Proof.Machine.execLd_SP_IY s
  | .rlc_atIYd d => Sys2Proof.Machine.execRlc_atIYd d s
  | .rrc_atIYd d => Sys2Proof.Machine.execRrc_atIYd d s
  | .rl_atIYd d => Sys2Proof.Machine.execRl_atIYd d s
  | .rr_atIYd d => Sys2Proof.Machine.execRr_atIYd d s
  | .sla_atIYd d => Sys2Proof.Machine.execSla_atIYd d s
  | .sra_atIYd d => Sys2Proof.Machine.execSra_atIYd d s
  | .sll_atIYd d => Sys2Proof.Machine.execSll_atIYd d s
  | .srl_atIYd d => Sys2Proof.Machine.execSrl_atIYd d s
  | .bit_b_atIYd b d => Sys2Proof.Machine.execBit_b_atIYd b d s
  | .res_b_atIYd b d => Sys2Proof.Machine.execRes_b_atIYd b d s
  | .set_b_atIYd b d => Sys2Proof.Machine.execSet_b_atIYd b d s

end Sys2Proof.Machine
end

