-- ==== Sys2Proof/Machine/Timing.lean ====
section
/-! DEFINITION. The T-states of an instruction (70_reset_and_hazards.md rules R470 to R477, decision D25): the cycle
counter `State.tStates`, on which no architectural effect depends. Where the source prints no figure, or one that the
spec notes to differ from the chip's, the figure is the chip's, as 93_implementation_defined.md V6 recommends (log
entry 20). -/

namespace Sys2Proof.Machine

/-- Time passes: the counter of rule R470 grows. -/
def State.elapse (n : Nat) (s : State) : State := { s with tStates := s.tStates + n }

/-- The T-states of an instruction, from the state it leaves: whether a condition held (the flags are unchanged), or
whether a count remains (rules R471 to R477). -/
def instrTStates (i : Instr) (after : State) : Nat :=
  match i with
  | .djnz_e _ => if after.b != 0 then 13 else 8
  | .jr_NZ_e _ => if after.f.holds .nz then 12 else 7
  | .jr_Z_e _ => if after.f.holds .z then 12 else 7
  | .jr_NC_e _ => if after.f.holds .nc then 12 else 7
  | .jr_C_e _ => if after.f.holds .c then 12 else 7
  | .ret_NZ => if after.f.holds .nz then 11 else 5
  | .call_NZ_nn _ => if after.f.holds .nz then 17 else 10
  | .ret_Z => if after.f.holds .z then 11 else 5
  | .call_Z_nn _ => if after.f.holds .z then 17 else 10
  | .ret_NC => if after.f.holds .nc then 11 else 5
  | .call_NC_nn _ => if after.f.holds .nc then 17 else 10
  | .ret_C => if after.f.holds .c then 11 else 5
  | .call_C_nn _ => if after.f.holds .c then 17 else 10
  | .ret_PO => if after.f.holds .po then 11 else 5
  | .call_PO_nn _ => if after.f.holds .po then 17 else 10
  | .ret_PE => if after.f.holds .pe then 11 else 5
  | .call_PE_nn _ => if after.f.holds .pe then 17 else 10
  | .ret_P => if after.f.holds .p then 11 else 5
  | .call_P_nn _ => if after.f.holds .p then 17 else 10
  | .ret_M => if after.f.holds .m then 11 else 5
  | .call_M_nn _ => if after.f.holds .m then 17 else 10
  | .ldir => if after.bc != 0 then 21 else 16
  | .lddr => if after.bc != 0 then 21 else 16
  | .cpir => if after.bc != 0 && !after.f.z then 21 else 16
  | .cpdr => if after.bc != 0 && !after.f.z then 21 else 16
  | .inir => if after.b != 0 then 21 else 16
  | .otir => if after.b != 0 then 21 else 16
  | .indr => if after.b != 0 then 21 else 16
  | .otdr => if after.b != 0 then 21 else 16
  | .nop | .ex_AF_AFshadow | .inc_B | .dec_B | .inc_C | .dec_C | .inc_D | .dec_D | .inc_E | .dec_E | .inc_H
  | .dec_H | .inc_L | .dec_L | .inc_A | .dec_A | .rlca | .rrca | .rla | .rra | .daa | .cpl | .scf | .ccf
  | .ld_B_B | .ld_B_C | .ld_B_D | .ld_B_E | .ld_B_H | .ld_B_L | .ld_B_A | .ld_C_B | .ld_C_C | .ld_C_D | .ld_C_E
  | .ld_C_H | .ld_C_L | .ld_C_A | .ld_D_B | .ld_D_C | .ld_D_D | .ld_D_E | .ld_D_H | .ld_D_L | .ld_D_A | .ld_E_B
  | .ld_E_C | .ld_E_D | .ld_E_E | .ld_E_H | .ld_E_L | .ld_E_A | .ld_H_B | .ld_H_C | .ld_H_D | .ld_H_E | .ld_H_H
  | .ld_H_L | .ld_H_A | .ld_L_B | .ld_L_C | .ld_L_D | .ld_L_E | .ld_L_H | .ld_L_L | .ld_L_A | .halt | .ld_A_B
  | .ld_A_C | .ld_A_D | .ld_A_E | .ld_A_H | .ld_A_L | .ld_A_A | .add_A_B | .add_A_C | .add_A_D | .add_A_E
  | .add_A_H | .add_A_L | .add_A_A | .adc_A_B | .adc_A_C | .adc_A_D | .adc_A_E | .adc_A_H | .adc_A_L | .adc_A_A
  | .sub_B | .sub_C | .sub_D | .sub_E | .sub_H | .sub_L | .sub_A | .sbc_A_B | .sbc_A_C | .sbc_A_D | .sbc_A_E
  | .sbc_A_H | .sbc_A_L | .sbc_A_A | .and_B | .and_C | .and_D | .and_E | .and_H | .and_L | .and_A | .xor_B
  | .xor_C | .xor_D | .xor_E | .xor_H | .xor_L | .xor_A | .or_B | .or_C | .or_D | .or_E | .or_H | .or_L | .or_A
  | .cp_B | .cp_C | .cp_D | .cp_E | .cp_H | .cp_L | .cp_A | .exx | .jp_HL | .ex_DE_HL | .di | .ei => 4
  | .inc_BC | .dec_BC | .inc_DE | .dec_DE | .inc_HL | .dec_HL | .inc_SP | .dec_SP | .ld_SP_HL => 6
  | .ld_atBC_A | .ld_atDE_A | .ld_A_atBC | .ld_A_atDE | .ld_B_n _ | .ld_C_n _ | .ld_D_n _ | .ld_E_n _
  | .ld_H_n _ | .ld_L_n _ | .ld_A_n _ | .ld_B_atHL | .ld_C_atHL | .ld_D_atHL | .ld_E_atHL | .ld_H_atHL
  | .ld_L_atHL | .ld_atHL_B | .ld_atHL_C | .ld_atHL_D | .ld_atHL_E | .ld_atHL_H | .ld_atHL_L | .ld_atHL_A
  | .ld_A_atHL | .add_A_atHL | .add_A_n _ | .adc_A_atHL | .adc_A_n _ | .sub_atHL | .sub_n _ | .sbc_A_atHL
  | .sbc_A_n _ | .and_atHL | .and_n _ | .xor_atHL | .xor_n _ | .or_atHL | .or_n _ | .cp_atHL | .cp_n _ => 7
  | .rlc_B | .rlc_C | .rlc_D | .rlc_E | .rlc_H | .rlc_L | .rlc_A | .rrc_B | .rrc_C | .rrc_D | .rrc_E | .rrc_H
  | .rrc_L | .rrc_A | .rl_B | .rl_C | .rl_D | .rl_E | .rl_H | .rl_L | .rl_A | .rr_B | .rr_C | .rr_D | .rr_E
  | .rr_H | .rr_L | .rr_A | .sla_B | .sla_C | .sla_D | .sla_E | .sla_H | .sla_L | .sla_A | .sra_B | .sra_C
  | .sra_D | .sra_E | .sra_H | .sra_L | .sra_A | .sll_B | .sll_C | .sll_D | .sll_E | .sll_H | .sll_L | .sll_A
  | .srl_B | .srl_C | .srl_D | .srl_E | .srl_H | .srl_L | .srl_A | .bit_b_B _ | .bit_b_C _ | .bit_b_D _
  | .bit_b_E _ | .bit_b_H _ | .bit_b_L _ | .bit_b_A _ | .res_b_B _ | .res_b_C _ | .res_b_D _ | .res_b_E _
  | .res_b_H _ | .res_b_L _ | .res_b_A _ | .set_b_B _ | .set_b_C _ | .set_b_D _ | .set_b_E _ | .set_b_H _
  | .set_b_L _ | .set_b_A _ | .neg | .im_0 | .im_1 | .im_2 | .inc_IXH | .dec_IXH | .inc_IXL | .dec_IXL
  | .ld_B_IXH | .ld_B_IXL | .ld_C_IXH | .ld_C_IXL | .ld_D_IXH | .ld_D_IXL | .ld_E_IXH | .ld_E_IXL | .ld_IXH_B
  | .ld_IXH_C | .ld_IXH_D | .ld_IXH_E | .ld_IXH_IXH | .ld_IXH_IXL | .ld_IXH_A | .ld_IXL_B | .ld_IXL_C
  | .ld_IXL_D | .ld_IXL_E | .ld_IXL_IXH | .ld_IXL_IXL | .ld_IXL_A | .ld_A_IXH | .ld_A_IXL | .add_A_IXH
  | .add_A_IXL | .adc_A_IXH | .adc_A_IXL | .sub_IXH | .sub_IXL | .sbc_A_IXH | .sbc_A_IXL | .and_IXH | .and_IXL
  | .xor_IXH | .xor_IXL | .or_IXH | .or_IXL | .cp_IXH | .cp_IXL | .jp_IX | .inc_IYH | .dec_IYH | .inc_IYL
  | .dec_IYL | .ld_B_IYH | .ld_B_IYL | .ld_C_IYH | .ld_C_IYL | .ld_D_IYH | .ld_D_IYL | .ld_E_IYH | .ld_E_IYL
  | .ld_IYH_B | .ld_IYH_C | .ld_IYH_D | .ld_IYH_E | .ld_IYH_IYH | .ld_IYH_IYL | .ld_IYH_A | .ld_IYL_B
  | .ld_IYL_C | .ld_IYL_D | .ld_IYL_E | .ld_IYL_IYH | .ld_IYL_IYL | .ld_IYL_A | .ld_A_IYH | .ld_A_IYL
  | .add_A_IYH | .add_A_IYL | .adc_A_IYH | .adc_A_IYL | .sub_IYH | .sub_IYL | .sbc_A_IYH | .sbc_A_IYL
  | .and_IYH | .and_IYL | .xor_IYH | .xor_IYL | .or_IYH | .or_IYL | .cp_IYH | .cp_IYL | .jp_IY => 8
  | .ld_I_A | .ld_R_A | .ld_A_I | .ld_A_R => 9
  | .ld_BC_nn _ | .ld_DE_nn _ | .ld_HL_nn _ | .ld_SP_nn _ | .ld_atHL_n _ | .jp_NZ_nn _ | .jp_Z_nn _
  | .jp_NC_nn _ | .jp_C_nn _ | .jp_PO_nn _ | .jp_PE_nn _ | .jp_P_nn _ | .jp_M_nn _ | .pop_BC | .pop_DE
  | .pop_HL | .pop_AF | .ret | .jp_nn _ | .inc_IX | .dec_IX | .ld_SP_IX | .inc_IY | .dec_IY | .ld_SP_IY => 10
  | .add_HL_BC | .add_HL_DE | .add_HL_HL | .add_HL_SP | .inc_atHL | .dec_atHL | .rst_00 | .rst_08 | .rst_10
  | .rst_18 | .rst_20 | .rst_28 | .rst_30 | .rst_38 | .push_BC | .push_DE | .push_HL | .push_AF | .out_atN_A _
  | .in_A_atN _ | .ld_IXH_n _ | .ld_IXL_n _ | .ld_IYH_n _ | .ld_IYL_n _ => 11
  | .jr_e _ | .bit_b_atHL _ | .in_B_atC | .out_atC_B | .in_C_atC | .out_atC_C | .in_D_atC | .out_atC_D
  | .in_E_atC | .out_atC_E | .in_H_atC | .out_atC_H | .in_L_atC | .out_atC_L | .in_atC | .out_atC_0 | .in_A_atC
  | .out_atC_A => 12
  | .ld_atNn_A _ | .ld_A_atNn _ => 13
  | .retn | .reti | .ld_IX_nn _ | .pop_IX | .ld_IY_nn _ | .pop_IY => 14
  | .rlc_atHL | .rrc_atHL | .rl_atHL | .rr_atHL | .sla_atHL | .sra_atHL | .sll_atHL | .srl_atHL | .res_b_atHL _
  | .set_b_atHL _ | .sbc_HL_BC | .adc_HL_BC | .sbc_HL_DE | .adc_HL_DE | .sbc_HL_HL | .adc_HL_HL | .sbc_HL_SP
  | .adc_HL_SP | .add_IX_BC | .add_IX_DE | .add_IX_IX | .add_IX_SP | .push_IX | .add_IY_BC | .add_IY_DE
  | .add_IY_IY | .add_IY_SP | .push_IY => 15
  | .ld_atNn_HL _ | .ld_HL_atNn _ | .ldi | .cpi | .ini | .outi | .ldd | .cpd | .ind | .outd => 16
  | .call_nn _ => 17
  | .rrd | .rld => 18
  | .ex_atSP_HL | .ld_atIXd_n _ _ | .ld_B_atIXd _ | .ld_C_atIXd _ | .ld_D_atIXd _ | .ld_E_atIXd _
  | .ld_H_atIXd _ | .ld_L_atIXd _ | .ld_atIXd_B _ | .ld_atIXd_C _ | .ld_atIXd_D _ | .ld_atIXd_E _
  | .ld_atIXd_H _ | .ld_atIXd_L _ | .ld_atIXd_A _ | .ld_A_atIXd _ | .add_A_atIXd _ | .adc_A_atIXd _
  | .sub_atIXd _ | .sbc_A_atIXd _ | .and_atIXd _ | .xor_atIXd _ | .or_atIXd _ | .cp_atIXd _ | .ld_atIYd_n _ _
  | .ld_B_atIYd _ | .ld_C_atIYd _ | .ld_D_atIYd _ | .ld_E_atIYd _ | .ld_H_atIYd _ | .ld_L_atIYd _
  | .ld_atIYd_B _ | .ld_atIYd_C _ | .ld_atIYd_D _ | .ld_atIYd_E _ | .ld_atIYd_H _ | .ld_atIYd_L _
  | .ld_atIYd_A _ | .ld_A_atIYd _ | .add_A_atIYd _ | .adc_A_atIYd _ | .sub_atIYd _ | .sbc_A_atIYd _
  | .and_atIYd _ | .xor_atIYd _ | .or_atIYd _ | .cp_atIYd _ => 19
  | .ld_atNn_BC _ | .ld_BC_atNn _ | .ld_atNn_DE _ | .ld_DE_atNn _ | .ld_atNn_HL_ed _ | .ld_HL_atNn_ed _
  | .ld_atNn_SP _ | .ld_SP_atNn _ | .ld_atNn_IX _ | .ld_IX_atNn _ | .bit_b_atIXd _ _ | .ld_atNn_IY _
  | .ld_IY_atNn _ | .bit_b_atIYd _ _ => 20
  | .inc_atIXd _ | .dec_atIXd _ | .ex_atSP_IX | .rlc_atIXd _ | .rrc_atIXd _ | .rl_atIXd _ | .rr_atIXd _
  | .sla_atIXd _ | .sra_atIXd _ | .sll_atIXd _ | .srl_atIXd _ | .res_b_atIXd _ _ | .set_b_atIXd _ _
  | .inc_atIYd _ | .dec_atIYd _ | .ex_atSP_IY | .rlc_atIYd _ | .rrc_atIYd _ | .rl_atIYd _ | .rr_atIYd _
  | .sla_atIYd _ | .sra_atIYd _ | .sll_atIYd _ | .srl_atIYd _ | .res_b_atIYd _ _ | .set_b_atIYd _ _ => 23

/-- The T-states of an interrupt acceptance (rule R470): mode 1 takes 13 and mode 2 takes 19; mode 0 has no figure in
the spec and takes a free number. -/
def acceptanceTStates : IntMode → Nat
  | .mode0 => Config.modeZeroTStates
  | .mode1 => 13
  | .mode2 => 19

/-- The T-states of an `NMI` acceptance (rule R470). -/
def nmiTStates : Nat := 11

/-- The T-states of one halted idle step (rule R470). -/
def idleTStates : Nat := 4

end Sys2Proof.Machine
end

