-- ==== Sys2Proof/Machine/Fetch.lean ====
section
/-! DEFINITION. Fetching and running one instruction, and what a step boundary decides (60_exceptions.md rule R402,
20_memory.md rule R73). Machine/Step.lean only calls what stands here. -/

namespace Sys2Proof.Machine

/-! ### Fetch (rules R73, R92) -/

/-- Read `count` bytes from `addr` on, in ascending order, each once; the address wraps (rule R73). -/
def State.readBytes : (count : Nat) → (addr : Word) → State → List Byte × State
  | 0, _, s => ([], s)
  | count + 1, addr, s =>
    let first := s.readByte addr
    let rest := State.readBytes count (addr + 1) first.2
    (first.1 :: rest.1, rest.2)

/-- Whether an instruction's length is decided by its first byte alone, and is 1 (rule R92). -/
def isOneByte (b0 : Byte) : Bool := lengthFromBytes b0 0 == 1

/-- Fetch the bytes of the instruction at `PC`: exactly as many as its leading bytes say (rules R73, R92). -/
def State.fetch (s : State) : List Byte × State :=
  let b0 := s.readByte s.pc
  if isOneByte b0.1 then ([b0.1], b0.2)
  else
    let b1 := b0.2.readByte (s.pc + 1)
    let rest := State.readBytes (lengthFromBytes b0.1 b1.1 - 2) (s.pc + 2) b1.2
    (b0.1 :: b1.1 :: rest.1, rest.2)

/-- How many opcode fetches an instruction counts: 2 with a prefix, also behind `DD CB` and `FD CB`, else 1
(rule R31). -/
def fetchCount (bytes : List Byte) : Nat :=
  match bytes with
  | [] => 0
  | b0 :: _ => if isPrefixByte b0 then 2 else 1

/-- Execute an instruction and count its T-states (rules R402, R470). -/
def State.execTimed (i : Instr) (s : State) : Host.Outcome State Fault Refusal :=
  match exec i s with
  | .next t => .next (t.elapse (instrTStates i t))
  | .fault r => .fault r
  | .refused r => .refused r

/-- Fetch, decode, count the opcode fetches, and execute: one instruction, or one iteration of a repeating block
instruction (rule R402). Bytes that match no row are refused (rule R118). -/
def State.runInstruction (s : State) : Host.Outcome State Fault Refusal :=
  let fetched := s.fetch
  match decode fetched.1 with
  | .ok (i, _) => State.execTimed i (fetched.2.countFetches (fetchCount fetched.1))
  | .error error => .refused (.unassignedEncoding error s.pc fetched.1)

/-! ### The step boundary (rule R402) -/

/-- What the environment shows at the coming boundary. -/
def State.nextPins (s : State) : Pins :=
  match s.pins with
  | [] => Pins.quiet
  | p :: _ => p

/-- Pass the boundary: its entry is used up, and an edge on the `NMI` input is latched (rules R35, R408). -/
def State.samplePins (s : State) : State :=
  { s with pins := s.pins.tail, nmiPending := s.nmiPending || s.nextPins.nmiEdge }

/-- What a step does once the boundary's pins are sampled, in the order that is the priority of rule R409: an NMI, a
maskable interrupt, a halted idle step, an instruction (rule R402). -/
def State.afterReset (p : Pins) (s : State) : Host.Outcome State Fault Refusal :=
  let t : State := { s with eiShadow := false }
  if s.nmiPending then .next (t.acceptNmi.elapse nmiTStates)
  else if p.intLine && s.iff1 && !s.eiShadow then State.acceptInt p.intData (t.elapse (acceptanceTStates s.im))
  else if s.halted then .next ((t.countFetches 1).elapse idleTStates)
  else t.runInstruction

/-- One step from the state between two instructions (rule R402): a requested reset comes before everything. -/
def State.boundary (s : State) : Host.Outcome State Fault Refusal :=
  if s.nextPins.reset then .next s.samplePins.doReset
  else s.samplePins.afterReset s.nextPins

/-! ### Placing an instruction where the next step fetches it -/

/-- The same schedule with nothing requested at the coming boundary. -/
def quietNext : List Pins → List Pins
  | [] => []
  | _ :: rest => Pins.quiet :: rest

/-- Store bytes into memory from an address on, as RAM would; the address wraps. -/
def Memory.place : List Byte → Word → Memory → Memory
  | [], _, m => m
  | v :: rest, addr, m => Memory.place rest (addr + 1) (Memory.write m addr.toNat v)

/-- Whether a region keeps a stored byte from being fetched back at an address. -/
def Region.hides (g : Region) (addr : Word) : Bool := g.kind != .ram && Region.covers g addr

/-- The state with four bytes placed at `PC` and nothing in the way of their being run by the next step: the latches
and the coming boundary's requests that would come first are taken away, and the memory map's regions that would keep
the bytes from being read (log entry 7). -/
def State.placeInstruction (bytes : List Byte) (s : State) : State :=
  { s with
    mem := Memory.place bytes s.pc s.mem
    memMap := s.memMap.filter fun g =>
      !(Region.hides g s.pc || Region.hides g (s.pc + 1) || Region.hides g (s.pc + 2) || Region.hides g (s.pc + 3))
    halted := false
    nmiPending := false
    pins := quietNext s.pins }

end Sys2Proof.Machine
end

