-- ==== Sys2Proof/Machine/Step.lean ====
section
/-! DEFINITION. One step of the machine (rule R402), and the state that holds a given instruction where the next step
fetches it. -/

namespace Sys2Proof.Machine

/-- One step: `State.boundary`, rule R402. -/
def step (s : State) : Host.Outcome State Fault Refusal := s.boundary

/-- `s` with the instruction that a table word stands for stored at `PC` (four bytes, zeros above its bits). -/
def State.withFetchWord (s : State) (nbits w : Nat) : State := s.placeInstruction (tableWordBytes nbits w)

end Sys2Proof.Machine
end

