-- ==== Sys2Proof/Safety.lean ====
section
/-! DEFINITION. The words the claims are stated in: what a good state, a terminal state and a run that goes on are, and
what an instruction form does, said from the spec's own arithmetic over numbers (the meanings under Machine/ compute
with bits). -/

namespace Sys2Proof.Machine

/-! ### States -/

/-- What every step keeps: memory in its canonical form (rule R61), `IFF1` never set without `IFF2` (rule R33: an NMI
clears `IFF1` alone, everything else sets them alike or copies `IFF2`), and the `EI` shadow only while interrupts are
enabled (rules R252, R411). -/
structure State.Inv (s : State) : Prop where
  memory : Memory.wf s.mem = true
  enables : s.iff1 = true → s.iff2 = true
  shadow : s.eiShadow = true → s.iff1 = true

/-- Nothing to come asks for a reset or an NMI (rule R441: "no NMI source"). -/
def quietSchedule (pins : List Pins) : Prop := ∀ p ∈ pins, p.reset = false ∧ p.nmiEdge = false

/-- The end of a run (rule R441): halted, maskable interrupts disabled, no NMI pending, and no NMI or reset to come. -/
structure State.Terminal (s : State) : Prop where
  halted : s.halted = true
  disabled : s.iff1 = false
  noNmi : s.nmiPending = false
  quiet : quietSchedule s.pins

/-- Nothing comes before the instruction at this boundary: no reset, no NMI, no maskable interrupt that would be
accepted, not halted (rule R402). -/
structure State.RunsNext (s : State) : Prop where
  noReset : s.nextPins.reset = false
  noNmi : s.nmiPending = false
  noEdge : s.nextPins.nmiEdge = false
  noInt : s.nextPins.intLine = false ∨ s.iff1 = false ∨ s.eiShadow = true
  running : s.halted = false

/-- Every address is plain RAM: the default platform (rule R61, decision D3). -/
def State.AllRam (s : State) : Prop := s.memMap = []

/-- Memory holds these bytes from an address on, the address wrapping (rules R61, R72). -/
def State.Holds (s : State) (addr : Word) (bytes : List Byte) : Prop :=
  ∀ k (h : k < bytes.length), s.peek (addr + BitVec.ofNat 16 k) = bytes[k]

/-- The CPU can fetch bytes from an address on as memory holds them: every address of them is RAM or ROM (rule R62). -/
def State.Fetchable (s : State) (addr : Word) (count : Nat) : Prop :=
  ∀ k < count, s.kindAt (addr + BitVec.ofNat 16 k) = .ram ∨ s.kindAt (addr + BitVec.ofNat 16 k) = .rom

/-- The state at which the instruction of this boundary is fetched (rule R402): the boundary passed, the `EI` shadow
consumed. -/
def State.atFetch (s : State) : State := { s with pins := s.pins.tail, eiShadow := false }

/-- This boundary runs an instruction (it is no reset, no acceptance and no idle step), and the instruction is one of
these (rule R402). -/
def State.RunsOneOf (s : State) (is : List Instr) : Prop :=
  s.RunsNext ∧ ∃ i ∈ is, ∃ rest, decode s.atFetch.fetch.1 = .ok (i, rest)

/-! ### Assigned opcodes -/

/-- The opcodes of the `ED` page, as rule R109 lists them. -/
def assignedED : List Byte := [
    0x40, 0x41, 0x42, 0x43, 0x44, 0x45, 0x46, 0x47, 0x48, 0x49, 0x4A, 0x4B, 0x4D, 0x4F, 0x50, 0x51,
    0x52, 0x53, 0x56, 0x57, 0x58, 0x59, 0x5A, 0x5B, 0x5E, 0x5F, 0x60, 0x61, 0x62, 0x63, 0x67, 0x68,
    0x69, 0x6A, 0x6B, 0x6F, 0x70, 0x71, 0x72, 0x73, 0x78, 0x79, 0x7A, 0x7B, 0xA0, 0xA1, 0xA2, 0xA3,
    0xA8, 0xA9, 0xAA, 0xAB, 0xB0, 0xB1, 0xB2, 0xB3, 0xB8, 0xB9, 0xBA, 0xBB]

/-- The opcodes of the `DD` and `FD` pages, as rule R110 lists them. -/
def assignedIndex : List Byte := [
    0x09, 0x19, 0x21, 0x22, 0x23, 0x24, 0x25, 0x26, 0x29, 0x2A, 0x2B, 0x2C, 0x2D, 0x2E, 0x34, 0x35,
    0x36, 0x39, 0x44, 0x45, 0x46, 0x4C, 0x4D, 0x4E, 0x54, 0x55, 0x56, 0x5C, 0x5D, 0x5E, 0x60, 0x61,
    0x62, 0x63, 0x64, 0x65, 0x66, 0x67, 0x68, 0x69, 0x6A, 0x6B, 0x6C, 0x6D, 0x6E, 0x6F, 0x70, 0x71,
    0x72, 0x73, 0x74, 0x75, 0x77, 0x7C, 0x7D, 0x7E, 0x84, 0x85, 0x86, 0x8C, 0x8D, 0x8E, 0x94, 0x95,
    0x96, 0x9C, 0x9D, 0x9E, 0xA4, 0xA5, 0xA6, 0xAC, 0xAD, 0xAE, 0xB4, 0xB5, 0xB6, 0xBC, 0xBD, 0xBE,
    0xE1, 0xE3, 0xE5, 0xE9, 0xF9]

/-! ### What a form does -/

/-- The instruction is encoded as these bytes, and executing it takes `s` to `t`. -/
def Executes (i : Instr) (bytes : List Byte) (s t : State) : Prop := encode i = bytes ∧ exec i s = .next t

/-- One form of an instruction: its term, its bytes (30_encoding.md), and its operand. -/
structure Form (α : Type) where
  instr : Instr
  bytes : List Byte
  operand : α

/-- What a form does (`Executes`). -/
def Form.Does {α : Type} (x : Form α) (s t : State) : Prop := Executes x.instr x.bytes s t

/-- The address after an instruction of these bytes: `(pc + len) mod 65536` (rule R28). -/
def State.past (s : State) (bytes : List Byte) : Word := BitVec.ofNat 16 (s.pc.toNat + bytes.length)

/-- The address after the instruction of a form (rule R28). -/
def Form.past {α : Type} (x : Form α) (s : State) : Word := s.past x.bytes

/-! ### Addresses and operands -/

/-- `(base + sext_16(d)) mod 65536`, computed over the integers (rules R72, R105). -/
def indexed (base : Word) (d : Byte) : Word := BitVec.ofInt 16 ((base.toNat : Int) + d.toInt)

/-- The byte read at an address, and the history after the read (rule R62). -/
def State.byteAt (s : State) (addr : Word) : Byte × List BusEvent := ((s.readByte addr).1, (s.readByte addr).2.history)

/-- The word read at an address, little-endian, low byte first, and the history after the two reads; the second
address wraps (rules R65, R66). -/
def State.wordAt (s : State) (addr : Word) : Word × List BusEvent :=
  let low := s.byteAt addr
  let high := State.byteAt { s with history := low.2 } (addr + 1)
  (BitVec.ofNat 16 (low.1.toNat + 256 * high.1.toNat), high.2)

/-- The port whose high and low bytes these are (rule R64). -/
def portOf (high low : Byte) : Word := BitVec.ofNat 16 (256 * high.toNat + low.toNat)

/-- A word moved by a signed amount, modulo 65536 (rule R72). -/
def moved (w : Word) (k : Int) : Word := BitVec.ofInt 16 ((w.toNat : Int) + k)

/-- `R` after `n` opcode fetches: bit 7 stays, bits 6 to 0 count modulo 128 (rule R31). -/
def counted (r : Byte) (n : Nat) : Byte := BitVec.ofNat 8 (r.toNat / 128 * 128 + (r.toNat + n) % 128)

/-- The value of an operand that can be written, and the history after it is read (rules R105, R115). -/
def State.placeRead (s : State) : Place8 → Byte × List BusEvent
  | .reg r => (s.reg8 r, s.history)
  | .atHL => s.byteAt (joinBytes s.h s.l)
  | .atIX d => s.byteAt (indexed s.ix d)
  | .atIY d => s.byteAt (indexed s.iy d)

/-- The value of a source operand, and the history after it is read (rule R115). -/
def State.operandRead (s : State) : Operand8 → Byte × List BusEvent
  | .imm n => (n, s.history)
  | .place p => s.placeRead p

/-! ### Stores -/

/-- What the platform is handed when a byte is written: the byte, if the address is a device's (rule R63). -/
def State.handed (s : State) (addr : Word) (v : Byte) : List BusEvent :=
  if s.kindAt addr = .device then [.memWrite addr v] else []

/-- `addr` reads `v` in `t` if it is RAM, and as in `s` if it is not (rule R63). -/
def Stored (s t : State) (addr : Word) (v : Byte) : Prop :=
  (s.kindAt addr = .ram → t.peek addr = v) ∧ (s.kindAt addr ≠ .ram → t.peek addr = s.peek addr)

/-- One byte is stored at `addr`, and every other byte of memory reads as before (rule R63). -/
def StoresByte (s t : State) (addr : Word) (v : Byte) : Prop :=
  Stored s t addr v ∧ ∀ other, other ≠ addr → t.peek other = s.peek other

/-- A word is stored at `addr` and `addr + 1`, little-endian, and every other byte of memory reads as before (rules
R65, R66). -/
def StoresWord (s t : State) (addr : Word) (w : Word) : Prop :=
  Stored s t addr (loByte w) ∧ Stored s t (addr + 1) (hiByte w) ∧
    ∀ other, other ≠ addr → other ≠ addr + 1 → t.peek other = s.peek other

/-- Every byte of memory reads as before. -/
def StoresNothing (s t : State) : Prop := ∀ addr, t.peek addr = s.peek addr

/-- The byte at an address is read and replaced by `v`; every other byte of memory reads as before, and everything
but memory, the flags, the count of flag writes and the program counter stays (rules R63, R116). -/
def ReplacesAt (s t : State) (addr : Word) (v : Byte) (f : Flags) (draws : Nat) (pc : Word) : Prop :=
  t = { s with f := f, draws := draws, pc := pc, mem := t.mem, history := t.history } ∧ StoresByte s t addr v ∧
    t.history = s.handed addr v ++ (s.byteAt addr).2

/-- An operand is read and replaced by `v`: a register is written, or one byte is stored at the effective address that
was read; everything but it, the flags, the count of flag writes and the program counter stays (rule R116). -/
def Replaces (s t : State) (p : Place8) (v : Byte) (f : Flags) (draws : Nat) (pc : Word) : Prop :=
  match p with
  | .reg r => t = State.setReg8 r v { s with f := f, draws := draws, pc := pc }
  | .atHL => ReplacesAt s t (joinBytes s.h s.l) v f draws pc
  | .atIX d => ReplacesAt s t (indexed s.ix d) v f draws pc
  | .atIY d => ReplacesAt s t (indexed s.iy d) v f draws pc

/-- `w` is pushed and control moves to `pc`: `SP` is lowered by 2, the word is stored at the new `SP`, its high byte
first, and everything else stays (rules R66, R266). -/
def Pushes (s t : State) (w pc : Word) : Prop :=
  t = { s with
        sp := s.sp - 2
        pc := pc
        mem := t.mem
        history := s.handed (s.sp - 2) (loByte w) ++ s.handed (s.sp - 1) (hiByte w) ++ s.history } ∧
    StoresWord s t (s.sp - 2) w

/-- The state once a maskable interrupt or an NMI has been taken, but for the push of `PC` and the new `PC` (rules
R402, R404, R408): the boundary passed, the halt ended, `IFF1` cleared, one opcode fetch counted. -/
def State.interrupted (s : State) : State :=
  { s with
    pins := s.pins.tail
    eiShadow := false
    halted := false
    iff1 := false
    r := counted s.r 1 }

/-- A maskable interrupt is accepted at this boundary (rules R404, R409). -/
structure State.MaskableDue (s : State) : Prop where
  noReset : s.nextPins.reset = false
  noNmi : s.nmiPending = false
  noEdge : s.nextPins.nmiEdge = false
  requested : s.nextPins.intLine = true
  enabled : s.iff1 = true
  noShadow : s.eiShadow = false

/-! ### Flags -/

/-- A number is a signed 8-bit value. -/
def fits8 (x : Int) : Bool := decide (-128 ≤ x) && decide (x ≤ 127)

/-- A number is a signed 16-bit value. -/
def fits16 (x : Int) : Bool := decide (-32768 ≤ x) && decide (x ≤ 32767)

/-- A byte has an even number of 1 bits (`parity_even`, rule R8). -/
def evenOnes (v : Byte) : Bool := (List.range 8).countP (fun k => v.getLsbD k) % 2 == 0

/-- The flags of the sum `a + v + cin` of bytes (rules R40, R41), bits 5 and 3 free (rule R46). -/
def sumFlags (a v : Byte) (cin : Bool) (draws : Nat) : Flags where
  s := decide (128 ≤ (a.toNat + v.toNat + cin.toNat) % 256)
  z := decide ((a.toNat + v.toNat + cin.toNat) % 256 = 0)
  f5 := (freeFlagsAt draws).f5
  h := decide (16 ≤ a.toNat % 16 + v.toNat % 16 + cin.toNat)
  f3 := (freeFlagsAt draws).f3
  pv := !fits8 (a.toInt + v.toInt + cin.toNat)
  n := false
  c := decide (256 ≤ a.toNat + v.toNat + cin.toNat)

/-- The flags of the difference `a - v - cin` of bytes (rules R40, R42), bits 5 and 3 free (rule R46). -/
def differenceFlags (a v : Byte) (cin : Bool) (draws : Nat) : Flags where
  s := decide (128 ≤ ((a.toNat : Int) - v.toNat - cin.toNat) % 256)
  z := decide (((a.toNat : Int) - v.toNat - cin.toNat) % 256 = 0)
  f5 := (freeFlagsAt draws).f5
  h := decide ((a.toNat : Int) % 16 - v.toNat % 16 - cin.toNat < 0)
  f3 := (freeFlagsAt draws).f3
  pv := !fits8 (a.toInt - v.toInt - cin.toNat)
  n := true
  c := decide ((a.toNat : Int) - v.toNat - cin.toNat < 0)

/-- The flags of a 16-bit sum with carry (rules R40, R44): `H`, and bits 5 and 3, free. -/
def wordSumFlags (a v : Word) (cin : Bool) (draws : Nat) : Flags where
  s := decide (32768 ≤ (a.toNat + v.toNat + cin.toNat) % 65536)
  z := decide ((a.toNat + v.toNat + cin.toNat) % 65536 = 0)
  f5 := (freeFlagsAt draws).f5
  h := (freeFlagsAt draws).h
  f3 := (freeFlagsAt draws).f3
  pv := !fits16 (a.toInt + v.toInt + cin.toNat)
  n := false
  c := decide (65536 ≤ a.toNat + v.toNat + cin.toNat)

/-- The flags of a 16-bit difference with borrow (rules R40, R44): `H`, and bits 5 and 3, free. -/
def wordDifferenceFlags (a v : Word) (cin : Bool) (draws : Nat) : Flags where
  s := decide (32768 ≤ ((a.toNat : Int) - v.toNat - cin.toNat) % 65536)
  z := decide (((a.toNat : Int) - v.toNat - cin.toNat) % 65536 = 0)
  f5 := (freeFlagsAt draws).f5
  h := (freeFlagsAt draws).h
  f3 := (freeFlagsAt draws).f3
  pv := !fits16 (a.toInt - v.toInt - cin.toNat)
  n := true
  c := decide ((a.toNat : Int) - v.toNat - cin.toNat < 0)

/-- The flags of a byte whose `P/V` is its parity (rules R8, R47), with `H` and `C` as given and `N` reset, bits 5 and
3 free (rule R46). -/
def parityFlags (v : Byte) (h c : Bool) (draws : Nat) : Flags where
  s := decide (128 ≤ v.toNat)
  z := decide (v.toNat = 0)
  f5 := (freeFlagsAt draws).f5
  h := h
  f3 := (freeFlagsAt draws).f3
  pv := evenOnes v
  n := false
  c := c

/-- The flags as they were, bits 5 and 3 free: what an instruction that writes some other flag leaves of the rest
(rule R46). -/
def Flags.redrawn (f : Flags) (draws : Nat) : Flags :=
  { f with f5 := (freeFlagsAt draws).f5, f3 := (freeFlagsAt draws).f3 }

end Sys2Proof.Machine
end

