-- ==== Sys2Proof/Safety/Forms.lean ====
section
/-! DEFINITION. The forms of each instruction, for the claims that hold of all of them: the term, its bytes as
30_encoding.md gives them, and the operand that tells the forms apart. -/

namespace Sys2Proof.Machine

/-- `LD dst,src` between 8-bit registers and index halves (rule R310). -/
def registerLoadForms : List (Form (Reg8 × Reg8)) := [
    ⟨.ld_B_B, [0x40], (.b, .b)⟩, ⟨.ld_B_C, [0x41], (.b, .c)⟩, ⟨.ld_B_D, [0x42], (.b, .d)⟩,
    ⟨.ld_B_E, [0x43], (.b, .e)⟩, ⟨.ld_B_H, [0x44], (.b, .h)⟩, ⟨.ld_B_L, [0x45], (.b, .l)⟩,
    ⟨.ld_B_A, [0x47], (.b, .a)⟩, ⟨.ld_C_B, [0x48], (.c, .b)⟩, ⟨.ld_C_C, [0x49], (.c, .c)⟩,
    ⟨.ld_C_D, [0x4A], (.c, .d)⟩, ⟨.ld_C_E, [0x4B], (.c, .e)⟩, ⟨.ld_C_H, [0x4C], (.c, .h)⟩,
    ⟨.ld_C_L, [0x4D], (.c, .l)⟩, ⟨.ld_C_A, [0x4F], (.c, .a)⟩, ⟨.ld_D_B, [0x50], (.d, .b)⟩,
    ⟨.ld_D_C, [0x51], (.d, .c)⟩, ⟨.ld_D_D, [0x52], (.d, .d)⟩, ⟨.ld_D_E, [0x53], (.d, .e)⟩,
    ⟨.ld_D_H, [0x54], (.d, .h)⟩, ⟨.ld_D_L, [0x55], (.d, .l)⟩, ⟨.ld_D_A, [0x57], (.d, .a)⟩,
    ⟨.ld_E_B, [0x58], (.e, .b)⟩, ⟨.ld_E_C, [0x59], (.e, .c)⟩, ⟨.ld_E_D, [0x5A], (.e, .d)⟩,
    ⟨.ld_E_E, [0x5B], (.e, .e)⟩, ⟨.ld_E_H, [0x5C], (.e, .h)⟩, ⟨.ld_E_L, [0x5D], (.e, .l)⟩,
    ⟨.ld_E_A, [0x5F], (.e, .a)⟩, ⟨.ld_H_B, [0x60], (.h, .b)⟩, ⟨.ld_H_C, [0x61], (.h, .c)⟩,
    ⟨.ld_H_D, [0x62], (.h, .d)⟩, ⟨.ld_H_E, [0x63], (.h, .e)⟩, ⟨.ld_H_H, [0x64], (.h, .h)⟩,
    ⟨.ld_H_L, [0x65], (.h, .l)⟩, ⟨.ld_H_A, [0x67], (.h, .a)⟩, ⟨.ld_L_B, [0x68], (.l, .b)⟩,
    ⟨.ld_L_C, [0x69], (.l, .c)⟩, ⟨.ld_L_D, [0x6A], (.l, .d)⟩, ⟨.ld_L_E, [0x6B], (.l, .e)⟩,
    ⟨.ld_L_H, [0x6C], (.l, .h)⟩, ⟨.ld_L_L, [0x6D], (.l, .l)⟩, ⟨.ld_L_A, [0x6F], (.l, .a)⟩,
    ⟨.ld_A_B, [0x78], (.a, .b)⟩, ⟨.ld_A_C, [0x79], (.a, .c)⟩, ⟨.ld_A_D, [0x7A], (.a, .d)⟩,
    ⟨.ld_A_E, [0x7B], (.a, .e)⟩, ⟨.ld_A_H, [0x7C], (.a, .h)⟩, ⟨.ld_A_L, [0x7D], (.a, .l)⟩,
    ⟨.ld_A_A, [0x7F], (.a, .a)⟩, ⟨.ld_B_IXH, [0xDD, 0x44], (.b, .ixh)⟩, ⟨.ld_B_IXL, [0xDD, 0x45], (.b, .ixl)⟩,
    ⟨.ld_C_IXH, [0xDD, 0x4C], (.c, .ixh)⟩, ⟨.ld_C_IXL, [0xDD, 0x4D], (.c, .ixl)⟩,
    ⟨.ld_D_IXH, [0xDD, 0x54], (.d, .ixh)⟩, ⟨.ld_D_IXL, [0xDD, 0x55], (.d, .ixl)⟩,
    ⟨.ld_E_IXH, [0xDD, 0x5C], (.e, .ixh)⟩, ⟨.ld_E_IXL, [0xDD, 0x5D], (.e, .ixl)⟩,
    ⟨.ld_IXH_B, [0xDD, 0x60], (.ixh, .b)⟩, ⟨.ld_IXH_C, [0xDD, 0x61], (.ixh, .c)⟩,
    ⟨.ld_IXH_D, [0xDD, 0x62], (.ixh, .d)⟩, ⟨.ld_IXH_E, [0xDD, 0x63], (.ixh, .e)⟩,
    ⟨.ld_IXH_IXH, [0xDD, 0x64], (.ixh, .ixh)⟩, ⟨.ld_IXH_IXL, [0xDD, 0x65], (.ixh, .ixl)⟩,
    ⟨.ld_IXH_A, [0xDD, 0x67], (.ixh, .a)⟩, ⟨.ld_IXL_B, [0xDD, 0x68], (.ixl, .b)⟩,
    ⟨.ld_IXL_C, [0xDD, 0x69], (.ixl, .c)⟩, ⟨.ld_IXL_D, [0xDD, 0x6A], (.ixl, .d)⟩,
    ⟨.ld_IXL_E, [0xDD, 0x6B], (.ixl, .e)⟩, ⟨.ld_IXL_IXH, [0xDD, 0x6C], (.ixl, .ixh)⟩,
    ⟨.ld_IXL_IXL, [0xDD, 0x6D], (.ixl, .ixl)⟩, ⟨.ld_IXL_A, [0xDD, 0x6F], (.ixl, .a)⟩,
    ⟨.ld_A_IXH, [0xDD, 0x7C], (.a, .ixh)⟩, ⟨.ld_A_IXL, [0xDD, 0x7D], (.a, .ixl)⟩,
    ⟨.ld_B_IYH, [0xFD, 0x44], (.b, .iyh)⟩, ⟨.ld_B_IYL, [0xFD, 0x45], (.b, .iyl)⟩,
    ⟨.ld_C_IYH, [0xFD, 0x4C], (.c, .iyh)⟩, ⟨.ld_C_IYL, [0xFD, 0x4D], (.c, .iyl)⟩,
    ⟨.ld_D_IYH, [0xFD, 0x54], (.d, .iyh)⟩, ⟨.ld_D_IYL, [0xFD, 0x55], (.d, .iyl)⟩,
    ⟨.ld_E_IYH, [0xFD, 0x5C], (.e, .iyh)⟩, ⟨.ld_E_IYL, [0xFD, 0x5D], (.e, .iyl)⟩,
    ⟨.ld_IYH_B, [0xFD, 0x60], (.iyh, .b)⟩, ⟨.ld_IYH_C, [0xFD, 0x61], (.iyh, .c)⟩,
    ⟨.ld_IYH_D, [0xFD, 0x62], (.iyh, .d)⟩, ⟨.ld_IYH_E, [0xFD, 0x63], (.iyh, .e)⟩,
    ⟨.ld_IYH_IYH, [0xFD, 0x64], (.iyh, .iyh)⟩, ⟨.ld_IYH_IYL, [0xFD, 0x65], (.iyh, .iyl)⟩,
    ⟨.ld_IYH_A, [0xFD, 0x67], (.iyh, .a)⟩, ⟨.ld_IYL_B, [0xFD, 0x68], (.iyl, .b)⟩,
    ⟨.ld_IYL_C, [0xFD, 0x69], (.iyl, .c)⟩, ⟨.ld_IYL_D, [0xFD, 0x6A], (.iyl, .d)⟩,
    ⟨.ld_IYL_E, [0xFD, 0x6B], (.iyl, .e)⟩, ⟨.ld_IYL_IYH, [0xFD, 0x6C], (.iyl, .iyh)⟩,
    ⟨.ld_IYL_IYL, [0xFD, 0x6D], (.iyl, .iyl)⟩, ⟨.ld_IYL_A, [0xFD, 0x6F], (.iyl, .a)⟩,
    ⟨.ld_A_IYH, [0xFD, 0x7C], (.a, .iyh)⟩, ⟨.ld_A_IYL, [0xFD, 0x7D], (.a, .iyl)⟩]

/-- `LD dst,n` (rule R311). -/
def immediateLoadForms (n : Byte) : List (Form Reg8) := [
    ⟨.ld_B_n n, [0x06, n], .b⟩, ⟨.ld_C_n n, [0x0E, n], .c⟩, ⟨.ld_D_n n, [0x16, n], .d⟩, ⟨.ld_E_n n, [0x1E, n], .e⟩,
    ⟨.ld_H_n n, [0x26, n], .h⟩, ⟨.ld_L_n n, [0x2E, n], .l⟩, ⟨.ld_A_n n, [0x3E, n], .a⟩,
    ⟨.ld_IXH_n n, [0xDD, 0x26, n], .ixh⟩, ⟨.ld_IXL_n n, [0xDD, 0x2E, n], .ixl⟩,
    ⟨.ld_IYH_n n, [0xFD, 0x26, n], .iyh⟩, ⟨.ld_IYL_n n, [0xFD, 0x2E, n], .iyl⟩]

/-- Byte loads from memory: the register, and the address (rules R312, R315, R316). -/
def byteLoadForms (d : Byte) (nn : Word) : List (Form (Reg8 × (State → Word))) := [
    ⟨.ld_A_atBC, [0x0A], (.a, fun s => joinBytes s.b s.c)⟩, ⟨.ld_A_atDE, [0x1A], (.a, fun s => joinBytes s.d s.e)⟩,
    ⟨.ld_A_atNn nn, [0x3A, loByte nn, hiByte nn], (.a, fun _ => nn)⟩,
    ⟨.ld_B_atHL, [0x46], (.b, fun s => joinBytes s.h s.l)⟩, ⟨.ld_C_atHL, [0x4E], (.c, fun s => joinBytes s.h s.l)⟩,
    ⟨.ld_D_atHL, [0x56], (.d, fun s => joinBytes s.h s.l)⟩, ⟨.ld_E_atHL, [0x5E], (.e, fun s => joinBytes s.h s.l)⟩,
    ⟨.ld_H_atHL, [0x66], (.h, fun s => joinBytes s.h s.l)⟩, ⟨.ld_L_atHL, [0x6E], (.l, fun s => joinBytes s.h s.l)⟩,
    ⟨.ld_A_atHL, [0x7E], (.a, fun s => joinBytes s.h s.l)⟩,
    ⟨.ld_B_atIXd d, [0xDD, 0x46, d], (.b, fun s => indexed s.ix d)⟩,
    ⟨.ld_C_atIXd d, [0xDD, 0x4E, d], (.c, fun s => indexed s.ix d)⟩,
    ⟨.ld_D_atIXd d, [0xDD, 0x56, d], (.d, fun s => indexed s.ix d)⟩,
    ⟨.ld_E_atIXd d, [0xDD, 0x5E, d], (.e, fun s => indexed s.ix d)⟩,
    ⟨.ld_H_atIXd d, [0xDD, 0x66, d], (.h, fun s => indexed s.ix d)⟩,
    ⟨.ld_L_atIXd d, [0xDD, 0x6E, d], (.l, fun s => indexed s.ix d)⟩,
    ⟨.ld_A_atIXd d, [0xDD, 0x7E, d], (.a, fun s => indexed s.ix d)⟩,
    ⟨.ld_B_atIYd d, [0xFD, 0x46, d], (.b, fun s => indexed s.iy d)⟩,
    ⟨.ld_C_atIYd d, [0xFD, 0x4E, d], (.c, fun s => indexed s.iy d)⟩,
    ⟨.ld_D_atIYd d, [0xFD, 0x56, d], (.d, fun s => indexed s.iy d)⟩,
    ⟨.ld_E_atIYd d, [0xFD, 0x5E, d], (.e, fun s => indexed s.iy d)⟩,
    ⟨.ld_H_atIYd d, [0xFD, 0x66, d], (.h, fun s => indexed s.iy d)⟩,
    ⟨.ld_L_atIYd d, [0xFD, 0x6E, d], (.l, fun s => indexed s.iy d)⟩,
    ⟨.ld_A_atIYd d, [0xFD, 0x7E, d], (.a, fun s => indexed s.iy d)⟩]

/-- Byte stores to memory: the address, and the byte (rules R313, R314, R317, R318). -/
def byteStoreForms (n : Byte) (d : Byte) (nn : Word) : List (Form ((State → Word) × (State → Byte))) := [
    ⟨.ld_atBC_A, [0x02], (fun s => joinBytes s.b s.c, fun s => s.a)⟩,
    ⟨.ld_atDE_A, [0x12], (fun s => joinBytes s.d s.e, fun s => s.a)⟩,
    ⟨.ld_atNn_A nn, [0x32, loByte nn, hiByte nn], (fun _ => nn, fun s => s.a)⟩,
    ⟨.ld_atHL_n n, [0x36, n], (fun s => joinBytes s.h s.l, fun _ => n)⟩,
    ⟨.ld_atHL_B, [0x70], (fun s => joinBytes s.h s.l, fun s => s.b)⟩,
    ⟨.ld_atHL_C, [0x71], (fun s => joinBytes s.h s.l, fun s => s.c)⟩,
    ⟨.ld_atHL_D, [0x72], (fun s => joinBytes s.h s.l, fun s => s.d)⟩,
    ⟨.ld_atHL_E, [0x73], (fun s => joinBytes s.h s.l, fun s => s.e)⟩,
    ⟨.ld_atHL_H, [0x74], (fun s => joinBytes s.h s.l, fun s => s.h)⟩,
    ⟨.ld_atHL_L, [0x75], (fun s => joinBytes s.h s.l, fun s => s.l)⟩,
    ⟨.ld_atHL_A, [0x77], (fun s => joinBytes s.h s.l, fun s => s.a)⟩,
    ⟨.ld_atIXd_n d n, [0xDD, 0x36, d, n], (fun s => indexed s.ix d, fun _ => n)⟩,
    ⟨.ld_atIXd_B d, [0xDD, 0x70, d], (fun s => indexed s.ix d, fun s => s.b)⟩,
    ⟨.ld_atIXd_C d, [0xDD, 0x71, d], (fun s => indexed s.ix d, fun s => s.c)⟩,
    ⟨.ld_atIXd_D d, [0xDD, 0x72, d], (fun s => indexed s.ix d, fun s => s.d)⟩,
    ⟨.ld_atIXd_E d, [0xDD, 0x73, d], (fun s => indexed s.ix d, fun s => s.e)⟩,
    ⟨.ld_atIXd_H d, [0xDD, 0x74, d], (fun s => indexed s.ix d, fun s => s.h)⟩,
    ⟨.ld_atIXd_L d, [0xDD, 0x75, d], (fun s => indexed s.ix d, fun s => s.l)⟩,
    ⟨.ld_atIXd_A d, [0xDD, 0x77, d], (fun s => indexed s.ix d, fun s => s.a)⟩,
    ⟨.ld_atIYd_n d n, [0xFD, 0x36, d, n], (fun s => indexed s.iy d, fun _ => n)⟩,
    ⟨.ld_atIYd_B d, [0xFD, 0x70, d], (fun s => indexed s.iy d, fun s => s.b)⟩,
    ⟨.ld_atIYd_C d, [0xFD, 0x71, d], (fun s => indexed s.iy d, fun s => s.c)⟩,
    ⟨.ld_atIYd_D d, [0xFD, 0x72, d], (fun s => indexed s.iy d, fun s => s.d)⟩,
    ⟨.ld_atIYd_E d, [0xFD, 0x73, d], (fun s => indexed s.iy d, fun s => s.e)⟩,
    ⟨.ld_atIYd_H d, [0xFD, 0x74, d], (fun s => indexed s.iy d, fun s => s.h)⟩,
    ⟨.ld_atIYd_L d, [0xFD, 0x75, d], (fun s => indexed s.iy d, fun s => s.l)⟩,
    ⟨.ld_atIYd_A d, [0xFD, 0x77, d], (fun s => indexed s.iy d, fun s => s.a)⟩]

/-- 16-bit loads of an immediate, and of `SP` from a register: the register, and the word (rules R319, R322). -/
def wordLoadForms (nn : Word) : List (Form (Reg16 × (State → Word))) := [
    ⟨.ld_BC_nn nn, [0x01, loByte nn, hiByte nn], (.bc, fun _ => nn)⟩,
    ⟨.ld_DE_nn nn, [0x11, loByte nn, hiByte nn], (.de, fun _ => nn)⟩,
    ⟨.ld_HL_nn nn, [0x21, loByte nn, hiByte nn], (.hl, fun _ => nn)⟩,
    ⟨.ld_SP_nn nn, [0x31, loByte nn, hiByte nn], (.sp, fun _ => nn)⟩,
    ⟨.ld_SP_HL, [0xF9], (.sp, fun s => joinBytes s.h s.l)⟩,
    ⟨.ld_IX_nn nn, [0xDD, 0x21, loByte nn, hiByte nn], (.ix, fun _ => nn)⟩,
    ⟨.ld_SP_IX, [0xDD, 0xF9], (.sp, fun s => s.ix)⟩,
    ⟨.ld_IY_nn nn, [0xFD, 0x21, loByte nn, hiByte nn], (.iy, fun _ => nn)⟩,
    ⟨.ld_SP_IY, [0xFD, 0xF9], (.sp, fun s => s.iy)⟩]

/-- `LD dst,(nn)`, 16 bits (rules R320, R114). -/
def wordFromMemoryForms (nn : Word) : List (Form Reg16) := [
    ⟨.ld_HL_atNn nn, [0x2A, loByte nn, hiByte nn], .hl⟩, ⟨.ld_BC_atNn nn, [0xED, 0x4B, loByte nn, hiByte nn], .bc⟩,
    ⟨.ld_DE_atNn nn, [0xED, 0x5B, loByte nn, hiByte nn], .de⟩,
    ⟨.ld_HL_atNn_ed nn, [0xED, 0x6B, loByte nn, hiByte nn], .hl⟩,
    ⟨.ld_SP_atNn nn, [0xED, 0x7B, loByte nn, hiByte nn], .sp⟩,
    ⟨.ld_IX_atNn nn, [0xDD, 0x2A, loByte nn, hiByte nn], .ix⟩,
    ⟨.ld_IY_atNn nn, [0xFD, 0x2A, loByte nn, hiByte nn], .iy⟩]

/-- `LD (nn),src`, 16 bits (rules R321, R114). -/
def wordToMemoryForms (nn : Word) : List (Form Reg16) := [
    ⟨.ld_atNn_HL nn, [0x22, loByte nn, hiByte nn], .hl⟩, ⟨.ld_atNn_BC nn, [0xED, 0x43, loByte nn, hiByte nn], .bc⟩,
    ⟨.ld_atNn_DE nn, [0xED, 0x53, loByte nn, hiByte nn], .de⟩,
    ⟨.ld_atNn_HL_ed nn, [0xED, 0x63, loByte nn, hiByte nn], .hl⟩,
    ⟨.ld_atNn_SP nn, [0xED, 0x73, loByte nn, hiByte nn], .sp⟩,
    ⟨.ld_atNn_IX nn, [0xDD, 0x22, loByte nn, hiByte nn], .ix⟩,
    ⟨.ld_atNn_IY nn, [0xFD, 0x22, loByte nn, hiByte nn], .iy⟩]

/-- `ADD` on `A`, fifteen operands (rule R130). -/
def addForms (n : Byte) (d : Byte) : List (Form Operand8) := [
    ⟨.add_A_B, [0x80], .place (.reg .b)⟩, ⟨.add_A_C, [0x81], .place (.reg .c)⟩,
    ⟨.add_A_D, [0x82], .place (.reg .d)⟩, ⟨.add_A_E, [0x83], .place (.reg .e)⟩,
    ⟨.add_A_H, [0x84], .place (.reg .h)⟩, ⟨.add_A_L, [0x85], .place (.reg .l)⟩, ⟨.add_A_atHL, [0x86], .place .atHL⟩,
    ⟨.add_A_A, [0x87], .place (.reg .a)⟩, ⟨.add_A_n n, [0xC6, n], .imm n⟩,
    ⟨.add_A_IXH, [0xDD, 0x84], .place (.reg .ixh)⟩, ⟨.add_A_IXL, [0xDD, 0x85], .place (.reg .ixl)⟩,
    ⟨.add_A_atIXd d, [0xDD, 0x86, d], .place (.atIX d)⟩, ⟨.add_A_IYH, [0xFD, 0x84], .place (.reg .iyh)⟩,
    ⟨.add_A_IYL, [0xFD, 0x85], .place (.reg .iyl)⟩, ⟨.add_A_atIYd d, [0xFD, 0x86, d], .place (.atIY d)⟩]

/-- `ADC` on `A`, fifteen operands (rule R131). -/
def adcForms (n : Byte) (d : Byte) : List (Form Operand8) := [
    ⟨.adc_A_B, [0x88], .place (.reg .b)⟩, ⟨.adc_A_C, [0x89], .place (.reg .c)⟩,
    ⟨.adc_A_D, [0x8A], .place (.reg .d)⟩, ⟨.adc_A_E, [0x8B], .place (.reg .e)⟩,
    ⟨.adc_A_H, [0x8C], .place (.reg .h)⟩, ⟨.adc_A_L, [0x8D], .place (.reg .l)⟩, ⟨.adc_A_atHL, [0x8E], .place .atHL⟩,
    ⟨.adc_A_A, [0x8F], .place (.reg .a)⟩, ⟨.adc_A_n n, [0xCE, n], .imm n⟩,
    ⟨.adc_A_IXH, [0xDD, 0x8C], .place (.reg .ixh)⟩, ⟨.adc_A_IXL, [0xDD, 0x8D], .place (.reg .ixl)⟩,
    ⟨.adc_A_atIXd d, [0xDD, 0x8E, d], .place (.atIX d)⟩, ⟨.adc_A_IYH, [0xFD, 0x8C], .place (.reg .iyh)⟩,
    ⟨.adc_A_IYL, [0xFD, 0x8D], .place (.reg .iyl)⟩, ⟨.adc_A_atIYd d, [0xFD, 0x8E, d], .place (.atIY d)⟩]

/-- `SUB` on `A`, fifteen operands (rule R132). -/
def subForms (n : Byte) (d : Byte) : List (Form Operand8) := [
    ⟨.sub_B, [0x90], .place (.reg .b)⟩, ⟨.sub_C, [0x91], .place (.reg .c)⟩, ⟨.sub_D, [0x92], .place (.reg .d)⟩,
    ⟨.sub_E, [0x93], .place (.reg .e)⟩, ⟨.sub_H, [0x94], .place (.reg .h)⟩, ⟨.sub_L, [0x95], .place (.reg .l)⟩,
    ⟨.sub_atHL, [0x96], .place .atHL⟩, ⟨.sub_A, [0x97], .place (.reg .a)⟩, ⟨.sub_n n, [0xD6, n], .imm n⟩,
    ⟨.sub_IXH, [0xDD, 0x94], .place (.reg .ixh)⟩, ⟨.sub_IXL, [0xDD, 0x95], .place (.reg .ixl)⟩,
    ⟨.sub_atIXd d, [0xDD, 0x96, d], .place (.atIX d)⟩, ⟨.sub_IYH, [0xFD, 0x94], .place (.reg .iyh)⟩,
    ⟨.sub_IYL, [0xFD, 0x95], .place (.reg .iyl)⟩, ⟨.sub_atIYd d, [0xFD, 0x96, d], .place (.atIY d)⟩]

/-- `SBC` on `A`, fifteen operands (rule R133). -/
def sbcForms (n : Byte) (d : Byte) : List (Form Operand8) := [
    ⟨.sbc_A_B, [0x98], .place (.reg .b)⟩, ⟨.sbc_A_C, [0x99], .place (.reg .c)⟩,
    ⟨.sbc_A_D, [0x9A], .place (.reg .d)⟩, ⟨.sbc_A_E, [0x9B], .place (.reg .e)⟩,
    ⟨.sbc_A_H, [0x9C], .place (.reg .h)⟩, ⟨.sbc_A_L, [0x9D], .place (.reg .l)⟩, ⟨.sbc_A_atHL, [0x9E], .place .atHL⟩,
    ⟨.sbc_A_A, [0x9F], .place (.reg .a)⟩, ⟨.sbc_A_n n, [0xDE, n], .imm n⟩,
    ⟨.sbc_A_IXH, [0xDD, 0x9C], .place (.reg .ixh)⟩, ⟨.sbc_A_IXL, [0xDD, 0x9D], .place (.reg .ixl)⟩,
    ⟨.sbc_A_atIXd d, [0xDD, 0x9E, d], .place (.atIX d)⟩, ⟨.sbc_A_IYH, [0xFD, 0x9C], .place (.reg .iyh)⟩,
    ⟨.sbc_A_IYL, [0xFD, 0x9D], .place (.reg .iyl)⟩, ⟨.sbc_A_atIYd d, [0xFD, 0x9E, d], .place (.atIY d)⟩]

/-- `CP` on `A`, fifteen operands (rule R134). -/
def cpForms (n : Byte) (d : Byte) : List (Form Operand8) := [
    ⟨.cp_B, [0xB8], .place (.reg .b)⟩, ⟨.cp_C, [0xB9], .place (.reg .c)⟩, ⟨.cp_D, [0xBA], .place (.reg .d)⟩,
    ⟨.cp_E, [0xBB], .place (.reg .e)⟩, ⟨.cp_H, [0xBC], .place (.reg .h)⟩, ⟨.cp_L, [0xBD], .place (.reg .l)⟩,
    ⟨.cp_atHL, [0xBE], .place .atHL⟩, ⟨.cp_A, [0xBF], .place (.reg .a)⟩, ⟨.cp_n n, [0xFE, n], .imm n⟩,
    ⟨.cp_IXH, [0xDD, 0xBC], .place (.reg .ixh)⟩, ⟨.cp_IXL, [0xDD, 0xBD], .place (.reg .ixl)⟩,
    ⟨.cp_atIXd d, [0xDD, 0xBE, d], .place (.atIX d)⟩, ⟨.cp_IYH, [0xFD, 0xBC], .place (.reg .iyh)⟩,
    ⟨.cp_IYL, [0xFD, 0xBD], .place (.reg .iyl)⟩, ⟨.cp_atIYd d, [0xFD, 0xBE, d], .place (.atIY d)⟩]

/-- `AND` on `A`, fifteen operands (rule R170). -/
def andForms (n : Byte) (d : Byte) : List (Form Operand8) := [
    ⟨.and_B, [0xA0], .place (.reg .b)⟩, ⟨.and_C, [0xA1], .place (.reg .c)⟩, ⟨.and_D, [0xA2], .place (.reg .d)⟩,
    ⟨.and_E, [0xA3], .place (.reg .e)⟩, ⟨.and_H, [0xA4], .place (.reg .h)⟩, ⟨.and_L, [0xA5], .place (.reg .l)⟩,
    ⟨.and_atHL, [0xA6], .place .atHL⟩, ⟨.and_A, [0xA7], .place (.reg .a)⟩, ⟨.and_n n, [0xE6, n], .imm n⟩,
    ⟨.and_IXH, [0xDD, 0xA4], .place (.reg .ixh)⟩, ⟨.and_IXL, [0xDD, 0xA5], .place (.reg .ixl)⟩,
    ⟨.and_atIXd d, [0xDD, 0xA6, d], .place (.atIX d)⟩, ⟨.and_IYH, [0xFD, 0xA4], .place (.reg .iyh)⟩,
    ⟨.and_IYL, [0xFD, 0xA5], .place (.reg .iyl)⟩, ⟨.and_atIYd d, [0xFD, 0xA6, d], .place (.atIY d)⟩]

/-- `OR` on `A`, fifteen operands (rule R171). -/
def orForms (n : Byte) (d : Byte) : List (Form Operand8) := [
    ⟨.or_B, [0xB0], .place (.reg .b)⟩, ⟨.or_C, [0xB1], .place (.reg .c)⟩, ⟨.or_D, [0xB2], .place (.reg .d)⟩,
    ⟨.or_E, [0xB3], .place (.reg .e)⟩, ⟨.or_H, [0xB4], .place (.reg .h)⟩, ⟨.or_L, [0xB5], .place (.reg .l)⟩,
    ⟨.or_atHL, [0xB6], .place .atHL⟩, ⟨.or_A, [0xB7], .place (.reg .a)⟩, ⟨.or_n n, [0xF6, n], .imm n⟩,
    ⟨.or_IXH, [0xDD, 0xB4], .place (.reg .ixh)⟩, ⟨.or_IXL, [0xDD, 0xB5], .place (.reg .ixl)⟩,
    ⟨.or_atIXd d, [0xDD, 0xB6, d], .place (.atIX d)⟩, ⟨.or_IYH, [0xFD, 0xB4], .place (.reg .iyh)⟩,
    ⟨.or_IYL, [0xFD, 0xB5], .place (.reg .iyl)⟩, ⟨.or_atIYd d, [0xFD, 0xB6, d], .place (.atIY d)⟩]

/-- `XOR` on `A`, fifteen operands (rule R172). -/
def xorForms (n : Byte) (d : Byte) : List (Form Operand8) := [
    ⟨.xor_B, [0xA8], .place (.reg .b)⟩, ⟨.xor_C, [0xA9], .place (.reg .c)⟩, ⟨.xor_D, [0xAA], .place (.reg .d)⟩,
    ⟨.xor_E, [0xAB], .place (.reg .e)⟩, ⟨.xor_H, [0xAC], .place (.reg .h)⟩, ⟨.xor_L, [0xAD], .place (.reg .l)⟩,
    ⟨.xor_atHL, [0xAE], .place .atHL⟩, ⟨.xor_A, [0xAF], .place (.reg .a)⟩, ⟨.xor_n n, [0xEE, n], .imm n⟩,
    ⟨.xor_IXH, [0xDD, 0xAC], .place (.reg .ixh)⟩, ⟨.xor_IXL, [0xDD, 0xAD], .place (.reg .ixl)⟩,
    ⟨.xor_atIXd d, [0xDD, 0xAE, d], .place (.atIX d)⟩, ⟨.xor_IYH, [0xFD, 0xAC], .place (.reg .iyh)⟩,
    ⟨.xor_IYL, [0xFD, 0xAD], .place (.reg .iyl)⟩, ⟨.xor_atIYd d, [0xFD, 0xAE, d], .place (.atIY d)⟩]

/-- `INC m`, 8-bit (rule R136). -/
def incForms (d : Byte) : List (Form Place8) := [
    ⟨.inc_B, [0x04], .reg .b⟩, ⟨.inc_C, [0x0C], .reg .c⟩, ⟨.inc_D, [0x14], .reg .d⟩, ⟨.inc_E, [0x1C], .reg .e⟩,
    ⟨.inc_H, [0x24], .reg .h⟩, ⟨.inc_L, [0x2C], .reg .l⟩, ⟨.inc_atHL, [0x34], .atHL⟩, ⟨.inc_A, [0x3C], .reg .a⟩,
    ⟨.inc_IXH, [0xDD, 0x24], .reg .ixh⟩, ⟨.inc_IXL, [0xDD, 0x2C], .reg .ixl⟩,
    ⟨.inc_atIXd d, [0xDD, 0x34, d], .atIX d⟩, ⟨.inc_IYH, [0xFD, 0x24], .reg .iyh⟩,
    ⟨.inc_IYL, [0xFD, 0x2C], .reg .iyl⟩, ⟨.inc_atIYd d, [0xFD, 0x34, d], .atIY d⟩]

/-- `DEC m`, 8-bit (rule R137). -/
def decForms (d : Byte) : List (Form Place8) := [
    ⟨.dec_B, [0x05], .reg .b⟩, ⟨.dec_C, [0x0D], .reg .c⟩, ⟨.dec_D, [0x15], .reg .d⟩, ⟨.dec_E, [0x1D], .reg .e⟩,
    ⟨.dec_H, [0x25], .reg .h⟩, ⟨.dec_L, [0x2D], .reg .l⟩, ⟨.dec_atHL, [0x35], .atHL⟩, ⟨.dec_A, [0x3D], .reg .a⟩,
    ⟨.dec_IXH, [0xDD, 0x25], .reg .ixh⟩, ⟨.dec_IXL, [0xDD, 0x2D], .reg .ixl⟩,
    ⟨.dec_atIXd d, [0xDD, 0x35, d], .atIX d⟩, ⟨.dec_IYH, [0xFD, 0x25], .reg .iyh⟩,
    ⟨.dec_IYL, [0xFD, 0x2D], .reg .iyl⟩, ⟨.dec_atIYd d, [0xFD, 0x35, d], .atIY d⟩]

/-- `INC ss`, 16-bit (rule R138). -/
def incWordForms : List (Form Reg16) := [
    ⟨.inc_BC, [0x03], .bc⟩, ⟨.inc_DE, [0x13], .de⟩, ⟨.inc_HL, [0x23], .hl⟩, ⟨.inc_SP, [0x33], .sp⟩,
    ⟨.inc_IX, [0xDD, 0x23], .ix⟩, ⟨.inc_IY, [0xFD, 0x23], .iy⟩]

/-- `DEC ss`, 16-bit (rule R139). -/
def decWordForms : List (Form Reg16) := [
    ⟨.dec_BC, [0x0B], .bc⟩, ⟨.dec_DE, [0x1B], .de⟩, ⟨.dec_HL, [0x2B], .hl⟩, ⟨.dec_SP, [0x3B], .sp⟩,
    ⟨.dec_IX, [0xDD, 0x2B], .ix⟩, ⟨.dec_IY, [0xFD, 0x2B], .iy⟩]

/-- `ADD HL,ss`, `ADD IX,pp`, `ADD IY,rr`: the destination, and the addend (rule R140). -/
def addWordForms : List (Form (Reg16 × Reg16)) := [
    ⟨.add_HL_BC, [0x09], (.hl, .bc)⟩, ⟨.add_HL_DE, [0x19], (.hl, .de)⟩, ⟨.add_HL_HL, [0x29], (.hl, .hl)⟩,
    ⟨.add_HL_SP, [0x39], (.hl, .sp)⟩, ⟨.add_IX_BC, [0xDD, 0x09], (.ix, .bc)⟩,
    ⟨.add_IX_DE, [0xDD, 0x19], (.ix, .de)⟩, ⟨.add_IX_IX, [0xDD, 0x29], (.ix, .ix)⟩,
    ⟨.add_IX_SP, [0xDD, 0x39], (.ix, .sp)⟩, ⟨.add_IY_BC, [0xFD, 0x09], (.iy, .bc)⟩,
    ⟨.add_IY_DE, [0xFD, 0x19], (.iy, .de)⟩, ⟨.add_IY_IY, [0xFD, 0x29], (.iy, .iy)⟩,
    ⟨.add_IY_SP, [0xFD, 0x39], (.iy, .sp)⟩]

/-- `ADC HL,ss` (rule R141). -/
def adcWordForms : List (Form Reg16) := [
    ⟨.adc_HL_BC, [0xED, 0x4A], .bc⟩, ⟨.adc_HL_DE, [0xED, 0x5A], .de⟩, ⟨.adc_HL_HL, [0xED, 0x6A], .hl⟩,
    ⟨.adc_HL_SP, [0xED, 0x7A], .sp⟩]

/-- `SBC HL,ss` (rule R142). -/
def sbcWordForms : List (Form Reg16) := [
    ⟨.sbc_HL_BC, [0xED, 0x42], .bc⟩, ⟨.sbc_HL_DE, [0xED, 0x52], .de⟩, ⟨.sbc_HL_HL, [0xED, 0x62], .hl⟩,
    ⟨.sbc_HL_SP, [0xED, 0x72], .sp⟩]

/-- `BIT b,m8` (rule R177). -/
def bitForms (b : Nat) (d : Byte) : List (Form Place8) := [
    ⟨.bit_b_B b, [0xCB, BitVec.ofNat 8 (0x40 + 8 * b)], .reg .b⟩,
    ⟨.bit_b_C b, [0xCB, BitVec.ofNat 8 (0x41 + 8 * b)], .reg .c⟩,
    ⟨.bit_b_D b, [0xCB, BitVec.ofNat 8 (0x42 + 8 * b)], .reg .d⟩,
    ⟨.bit_b_E b, [0xCB, BitVec.ofNat 8 (0x43 + 8 * b)], .reg .e⟩,
    ⟨.bit_b_H b, [0xCB, BitVec.ofNat 8 (0x44 + 8 * b)], .reg .h⟩,
    ⟨.bit_b_L b, [0xCB, BitVec.ofNat 8 (0x45 + 8 * b)], .reg .l⟩,
    ⟨.bit_b_atHL b, [0xCB, BitVec.ofNat 8 (0x46 + 8 * b)], .atHL⟩,
    ⟨.bit_b_A b, [0xCB, BitVec.ofNat 8 (0x47 + 8 * b)], .reg .a⟩,
    ⟨.bit_b_atIXd b d, [0xDD, 0xCB, d, BitVec.ofNat 8 (0x46 + 8 * b)], .atIX d⟩,
    ⟨.bit_b_atIYd b d, [0xFD, 0xCB, d, BitVec.ofNat 8 (0x46 + 8 * b)], .atIY d⟩]

/-- `RES b,m8` (rule R178). -/
def resForms (b : Nat) (d : Byte) : List (Form Place8) := [
    ⟨.res_b_B b, [0xCB, BitVec.ofNat 8 (0x80 + 8 * b)], .reg .b⟩,
    ⟨.res_b_C b, [0xCB, BitVec.ofNat 8 (0x81 + 8 * b)], .reg .c⟩,
    ⟨.res_b_D b, [0xCB, BitVec.ofNat 8 (0x82 + 8 * b)], .reg .d⟩,
    ⟨.res_b_E b, [0xCB, BitVec.ofNat 8 (0x83 + 8 * b)], .reg .e⟩,
    ⟨.res_b_H b, [0xCB, BitVec.ofNat 8 (0x84 + 8 * b)], .reg .h⟩,
    ⟨.res_b_L b, [0xCB, BitVec.ofNat 8 (0x85 + 8 * b)], .reg .l⟩,
    ⟨.res_b_atHL b, [0xCB, BitVec.ofNat 8 (0x86 + 8 * b)], .atHL⟩,
    ⟨.res_b_A b, [0xCB, BitVec.ofNat 8 (0x87 + 8 * b)], .reg .a⟩,
    ⟨.res_b_atIXd b d, [0xDD, 0xCB, d, BitVec.ofNat 8 (0x86 + 8 * b)], .atIX d⟩,
    ⟨.res_b_atIYd b d, [0xFD, 0xCB, d, BitVec.ofNat 8 (0x86 + 8 * b)], .atIY d⟩]

/-- `SET b,m8` (rule R179). -/
def setForms (b : Nat) (d : Byte) : List (Form Place8) := [
    ⟨.set_b_B b, [0xCB, BitVec.ofNat 8 (0xC0 + 8 * b)], .reg .b⟩,
    ⟨.set_b_C b, [0xCB, BitVec.ofNat 8 (0xC1 + 8 * b)], .reg .c⟩,
    ⟨.set_b_D b, [0xCB, BitVec.ofNat 8 (0xC2 + 8 * b)], .reg .d⟩,
    ⟨.set_b_E b, [0xCB, BitVec.ofNat 8 (0xC3 + 8 * b)], .reg .e⟩,
    ⟨.set_b_H b, [0xCB, BitVec.ofNat 8 (0xC4 + 8 * b)], .reg .h⟩,
    ⟨.set_b_L b, [0xCB, BitVec.ofNat 8 (0xC5 + 8 * b)], .reg .l⟩,
    ⟨.set_b_atHL b, [0xCB, BitVec.ofNat 8 (0xC6 + 8 * b)], .atHL⟩,
    ⟨.set_b_A b, [0xCB, BitVec.ofNat 8 (0xC7 + 8 * b)], .reg .a⟩,
    ⟨.set_b_atIXd b d, [0xDD, 0xCB, d, BitVec.ofNat 8 (0xC6 + 8 * b)], .atIX d⟩,
    ⟨.set_b_atIYd b d, [0xFD, 0xCB, d, BitVec.ofNat 8 (0xC6 + 8 * b)], .atIY d⟩]

/-- `RLC m8` (rule R354). -/
def rlcForms (d : Byte) : List (Form Place8) := [
    ⟨.rlc_B, [0xCB, 0x00], .reg .b⟩, ⟨.rlc_C, [0xCB, 0x01], .reg .c⟩, ⟨.rlc_D, [0xCB, 0x02], .reg .d⟩,
    ⟨.rlc_E, [0xCB, 0x03], .reg .e⟩, ⟨.rlc_H, [0xCB, 0x04], .reg .h⟩, ⟨.rlc_L, [0xCB, 0x05], .reg .l⟩,
    ⟨.rlc_atHL, [0xCB, 0x06], .atHL⟩, ⟨.rlc_A, [0xCB, 0x07], .reg .a⟩,
    ⟨.rlc_atIXd d, [0xDD, 0xCB, d, 0x06], .atIX d⟩, ⟨.rlc_atIYd d, [0xFD, 0xCB, d, 0x06], .atIY d⟩]

/-- `RL m8` (rule R355). -/
def rlForms (d : Byte) : List (Form Place8) := [
    ⟨.rl_B, [0xCB, 0x10], .reg .b⟩, ⟨.rl_C, [0xCB, 0x11], .reg .c⟩, ⟨.rl_D, [0xCB, 0x12], .reg .d⟩,
    ⟨.rl_E, [0xCB, 0x13], .reg .e⟩, ⟨.rl_H, [0xCB, 0x14], .reg .h⟩, ⟨.rl_L, [0xCB, 0x15], .reg .l⟩,
    ⟨.rl_atHL, [0xCB, 0x16], .atHL⟩, ⟨.rl_A, [0xCB, 0x17], .reg .a⟩, ⟨.rl_atIXd d, [0xDD, 0xCB, d, 0x16], .atIX d⟩,
    ⟨.rl_atIYd d, [0xFD, 0xCB, d, 0x16], .atIY d⟩]

/-- `RRC m8` (rule R356). -/
def rrcForms (d : Byte) : List (Form Place8) := [
    ⟨.rrc_B, [0xCB, 0x08], .reg .b⟩, ⟨.rrc_C, [0xCB, 0x09], .reg .c⟩, ⟨.rrc_D, [0xCB, 0x0A], .reg .d⟩,
    ⟨.rrc_E, [0xCB, 0x0B], .reg .e⟩, ⟨.rrc_H, [0xCB, 0x0C], .reg .h⟩, ⟨.rrc_L, [0xCB, 0x0D], .reg .l⟩,
    ⟨.rrc_atHL, [0xCB, 0x0E], .atHL⟩, ⟨.rrc_A, [0xCB, 0x0F], .reg .a⟩,
    ⟨.rrc_atIXd d, [0xDD, 0xCB, d, 0x0E], .atIX d⟩, ⟨.rrc_atIYd d, [0xFD, 0xCB, d, 0x0E], .atIY d⟩]

/-- `RR m8` (rule R357). -/
def rrForms (d : Byte) : List (Form Place8) := [
    ⟨.rr_B, [0xCB, 0x18], .reg .b⟩, ⟨.rr_C, [0xCB, 0x19], .reg .c⟩, ⟨.rr_D, [0xCB, 0x1A], .reg .d⟩,
    ⟨.rr_E, [0xCB, 0x1B], .reg .e⟩, ⟨.rr_H, [0xCB, 0x1C], .reg .h⟩, ⟨.rr_L, [0xCB, 0x1D], .reg .l⟩,
    ⟨.rr_atHL, [0xCB, 0x1E], .atHL⟩, ⟨.rr_A, [0xCB, 0x1F], .reg .a⟩, ⟨.rr_atIXd d, [0xDD, 0xCB, d, 0x1E], .atIX d⟩,
    ⟨.rr_atIYd d, [0xFD, 0xCB, d, 0x1E], .atIY d⟩]

/-- `SLA m8` (rule R358). -/
def slaForms (d : Byte) : List (Form Place8) := [
    ⟨.sla_B, [0xCB, 0x20], .reg .b⟩, ⟨.sla_C, [0xCB, 0x21], .reg .c⟩, ⟨.sla_D, [0xCB, 0x22], .reg .d⟩,
    ⟨.sla_E, [0xCB, 0x23], .reg .e⟩, ⟨.sla_H, [0xCB, 0x24], .reg .h⟩, ⟨.sla_L, [0xCB, 0x25], .reg .l⟩,
    ⟨.sla_atHL, [0xCB, 0x26], .atHL⟩, ⟨.sla_A, [0xCB, 0x27], .reg .a⟩,
    ⟨.sla_atIXd d, [0xDD, 0xCB, d, 0x26], .atIX d⟩, ⟨.sla_atIYd d, [0xFD, 0xCB, d, 0x26], .atIY d⟩]

/-- `SLL m8` (rule R359). -/
def sllForms (d : Byte) : List (Form Place8) := [
    ⟨.sll_B, [0xCB, 0x30], .reg .b⟩, ⟨.sll_C, [0xCB, 0x31], .reg .c⟩, ⟨.sll_D, [0xCB, 0x32], .reg .d⟩,
    ⟨.sll_E, [0xCB, 0x33], .reg .e⟩, ⟨.sll_H, [0xCB, 0x34], .reg .h⟩, ⟨.sll_L, [0xCB, 0x35], .reg .l⟩,
    ⟨.sll_atHL, [0xCB, 0x36], .atHL⟩, ⟨.sll_A, [0xCB, 0x37], .reg .a⟩,
    ⟨.sll_atIXd d, [0xDD, 0xCB, d, 0x36], .atIX d⟩, ⟨.sll_atIYd d, [0xFD, 0xCB, d, 0x36], .atIY d⟩]

/-- `SRA m8` (rule R360). -/
def sraForms (d : Byte) : List (Form Place8) := [
    ⟨.sra_B, [0xCB, 0x28], .reg .b⟩, ⟨.sra_C, [0xCB, 0x29], .reg .c⟩, ⟨.sra_D, [0xCB, 0x2A], .reg .d⟩,
    ⟨.sra_E, [0xCB, 0x2B], .reg .e⟩, ⟨.sra_H, [0xCB, 0x2C], .reg .h⟩, ⟨.sra_L, [0xCB, 0x2D], .reg .l⟩,
    ⟨.sra_atHL, [0xCB, 0x2E], .atHL⟩, ⟨.sra_A, [0xCB, 0x2F], .reg .a⟩,
    ⟨.sra_atIXd d, [0xDD, 0xCB, d, 0x2E], .atIX d⟩, ⟨.sra_atIYd d, [0xFD, 0xCB, d, 0x2E], .atIY d⟩]

/-- `SRL m8` (rule R361). -/
def srlForms (d : Byte) : List (Form Place8) := [
    ⟨.srl_B, [0xCB, 0x38], .reg .b⟩, ⟨.srl_C, [0xCB, 0x39], .reg .c⟩, ⟨.srl_D, [0xCB, 0x3A], .reg .d⟩,
    ⟨.srl_E, [0xCB, 0x3B], .reg .e⟩, ⟨.srl_H, [0xCB, 0x3C], .reg .h⟩, ⟨.srl_L, [0xCB, 0x3D], .reg .l⟩,
    ⟨.srl_atHL, [0xCB, 0x3E], .atHL⟩, ⟨.srl_A, [0xCB, 0x3F], .reg .a⟩,
    ⟨.srl_atIXd d, [0xDD, 0xCB, d, 0x3E], .atIX d⟩, ⟨.srl_atIYd d, [0xFD, 0xCB, d, 0x3E], .atIY d⟩]

/-- `JP cc,nn`: when the flags make it jump (rules R48, R201). -/
def jumpIfForms (nn : Word) : List (Form (Flags → Bool)) := [
    ⟨.jp_NZ_nn nn, [0xC2, loByte nn, hiByte nn], fun f => !f.z⟩,
    ⟨.jp_Z_nn nn, [0xCA, loByte nn, hiByte nn], fun f => f.z⟩,
    ⟨.jp_NC_nn nn, [0xD2, loByte nn, hiByte nn], fun f => !f.c⟩,
    ⟨.jp_C_nn nn, [0xDA, loByte nn, hiByte nn], fun f => f.c⟩,
    ⟨.jp_PO_nn nn, [0xE2, loByte nn, hiByte nn], fun f => !f.pv⟩,
    ⟨.jp_PE_nn nn, [0xEA, loByte nn, hiByte nn], fun f => f.pv⟩,
    ⟨.jp_P_nn nn, [0xF2, loByte nn, hiByte nn], fun f => !f.s⟩,
    ⟨.jp_M_nn nn, [0xFA, loByte nn, hiByte nn], fun f => f.s⟩]

/-- `JP (HL)`, `JP (IX)`, `JP (IY)` (rule R202). -/
def jumpRegisterForms : List (Form (State → Word)) := [
    ⟨.jp_HL, [0xE9], fun s => joinBytes s.h s.l⟩, ⟨.jp_IX, [0xDD, 0xE9], fun s => s.ix⟩,
    ⟨.jp_IY, [0xFD, 0xE9], fun s => s.iy⟩]

/-- `JR cc,e` (rules R48, R204). -/
def jumpRelativeIfForms (e : Byte) : List (Form (Flags → Bool)) := [
    ⟨.jr_NZ_e e, [0x20, e], fun f => !f.z⟩, ⟨.jr_Z_e e, [0x28, e], fun f => f.z⟩,
    ⟨.jr_NC_e e, [0x30, e], fun f => !f.c⟩, ⟨.jr_C_e e, [0x38, e], fun f => f.c⟩]

/-- `CALL cc,nn` (rules R48, R207). -/
def callIfForms (nn : Word) : List (Form (Flags → Bool)) := [
    ⟨.call_NZ_nn nn, [0xC4, loByte nn, hiByte nn], fun f => !f.z⟩,
    ⟨.call_Z_nn nn, [0xCC, loByte nn, hiByte nn], fun f => f.z⟩,
    ⟨.call_NC_nn nn, [0xD4, loByte nn, hiByte nn], fun f => !f.c⟩,
    ⟨.call_C_nn nn, [0xDC, loByte nn, hiByte nn], fun f => f.c⟩,
    ⟨.call_PO_nn nn, [0xE4, loByte nn, hiByte nn], fun f => !f.pv⟩,
    ⟨.call_PE_nn nn, [0xEC, loByte nn, hiByte nn], fun f => f.pv⟩,
    ⟨.call_P_nn nn, [0xF4, loByte nn, hiByte nn], fun f => !f.s⟩,
    ⟨.call_M_nn nn, [0xFC, loByte nn, hiByte nn], fun f => f.s⟩]

/-- `RET cc` (rules R48, R209). -/
def returnIfForms : List (Form (Flags → Bool)) := [
    ⟨.ret_NZ, [0xC0], fun f => !f.z⟩, ⟨.ret_Z, [0xC8], fun f => f.z⟩, ⟨.ret_NC, [0xD0], fun f => !f.c⟩,
    ⟨.ret_C, [0xD8], fun f => f.c⟩, ⟨.ret_PO, [0xE0], fun f => !f.pv⟩, ⟨.ret_PE, [0xE8], fun f => f.pv⟩,
    ⟨.ret_P, [0xF0], fun f => !f.s⟩, ⟨.ret_M, [0xF8], fun f => f.s⟩]

/-- `RST t`: the target (rule R212). -/
def restartForms : List (Form Word) := [
    ⟨.rst_00, [0xC7], 0x0000⟩, ⟨.rst_08, [0xCF], 0x0008⟩, ⟨.rst_10, [0xD7], 0x0010⟩, ⟨.rst_18, [0xDF], 0x0018⟩,
    ⟨.rst_20, [0xE7], 0x0020⟩, ⟨.rst_28, [0xEF], 0x0028⟩, ⟨.rst_30, [0xF7], 0x0030⟩, ⟨.rst_38, [0xFF], 0x0038⟩]

/-- `EX (SP),HL`, `EX (SP),IX`, `EX (SP),IY` (rules R262, R263). -/
def exchangeTopForms : List (Form Reg16) := [
    ⟨.ex_atSP_HL, [0xE3], .hl⟩, ⟨.ex_atSP_IX, [0xDD, 0xE3], .ix⟩, ⟨.ex_atSP_IY, [0xFD, 0xE3], .iy⟩]

/-- `PUSH qq` (rule R268). -/
def pushForms : List (Form Reg16) := [
    ⟨.push_BC, [0xC5], .bc⟩, ⟨.push_DE, [0xD5], .de⟩, ⟨.push_HL, [0xE5], .hl⟩, ⟨.push_AF, [0xF5], .af⟩,
    ⟨.push_IX, [0xDD, 0xE5], .ix⟩, ⟨.push_IY, [0xFD, 0xE5], .iy⟩]

/-- `POP qq` (rule R269). -/
def popForms : List (Form Reg16) := [
    ⟨.pop_BC, [0xC1], .bc⟩, ⟨.pop_DE, [0xD1], .de⟩, ⟨.pop_HL, [0xE1], .hl⟩, ⟨.pop_AF, [0xF1], .af⟩,
    ⟨.pop_IX, [0xDD, 0xE1], .ix⟩, ⟨.pop_IY, [0xFD, 0xE1], .iy⟩]

/-- `IN r,(C)` (rule R281). -/
def inputForms : List (Form Reg8) := [
    ⟨.in_B_atC, [0xED, 0x40], .b⟩, ⟨.in_C_atC, [0xED, 0x48], .c⟩, ⟨.in_D_atC, [0xED, 0x50], .d⟩,
    ⟨.in_E_atC, [0xED, 0x58], .e⟩, ⟨.in_H_atC, [0xED, 0x60], .h⟩, ⟨.in_L_atC, [0xED, 0x68], .l⟩,
    ⟨.in_A_atC, [0xED, 0x78], .a⟩]

/-- `OUT (C),r` and `OUT (C),0`: the byte sent (rules R291, R293). -/
def outputForms : List (Form (State → Byte)) := [
    ⟨.out_atC_B, [0xED, 0x41], fun s => s.b⟩, ⟨.out_atC_C, [0xED, 0x49], fun s => s.c⟩,
    ⟨.out_atC_D, [0xED, 0x51], fun s => s.d⟩, ⟨.out_atC_E, [0xED, 0x59], fun s => s.e⟩,
    ⟨.out_atC_H, [0xED, 0x61], fun s => s.h⟩, ⟨.out_atC_L, [0xED, 0x69], fun s => s.l⟩,
    ⟨.out_atC_0, [0xED, 0x71], fun _ => 0⟩, ⟨.out_atC_A, [0xED, 0x79], fun s => s.a⟩]

/-- `IM 0`, `IM 1`, `IM 2` (rule R254). -/
def modeForms : List (Form IntMode) := [
    ⟨.im_0, [0xED, 0x46], .mode0⟩, ⟨.im_1, [0xED, 0x56], .mode1⟩, ⟨.im_2, [0xED, 0x5E], .mode2⟩]

end Sys2Proof.Machine
end

