-- ==== Sys2Proof/Certificates/Slice0/Obligations.lean ====
section
/-! DEFINITION. The statements for the provers: what the numbered rules of spec/ say the machine and its instructions
do. `x.Does s t` says that the form `x` has the bytes listed for it and that executing it in `s` ends in `t`; every
statement of that shape is also the statement that the instruction completes. -/

section

open Sys2Proof Sys2Proof.Machine

/-! ### Encoding (30_encoding.md) -/

/-- Decoding the encoding of a well-formed instruction gives it back, whatever bytes follow (rules R90, R91, R93). The
opcode map is the spec's general knowledge (log entry 10). -/
def Obligations.DecodingAnEncodingGivesTheInstruction : Prop :=
  ∀ i : Instr, i.wellFormed = true → ∀ rest : List Byte, decode (encode i ++ rest) = .ok (i, rest)

/-- Bytes that decode are the encoding of the well-formed instruction they decode to, and what follows it: no byte
string has two readings (rules R91, R113). (Log entry 10.) -/
def Obligations.DecodedBytesAreTheEncoding : Prop :=
  ∀ (bytes rest : List Byte) (i : Instr), decode bytes = .ok (i, rest) →
    i.wellFormed = true ∧ encode i ++ rest = bytes

/-- The length of an instruction is the one its two leading bytes say (rule R92), and is 1 to 4 (rule R91). (Log entry
10.) -/
def Obligations.LeadingBytesDecideTheLength : Prop :=
  ∀ (i : Instr) (b0 b1 : Byte) (rest more : List Byte), i.wellFormed = true → encode i ++ more = b0 :: b1 :: rest →
    (encode i).length = lengthFromBytes b0 b1 ∧ 1 ≤ (encode i).length ∧ (encode i).length ≤ 4

/-- Byte sequences with no row are refused, with their address, and nothing else happens: `ED` with an opcode outside
rule R109, `DD` or `FD` with one outside rule R110, `DD CB d` or `FD CB d` with one whose low three bits are not 6.
They neither trap nor act as a no-operation (rule R118). Refusing them is decision D7 (log entry 19). -/
def Obligations.UnassignedBytesAreRefused : Prop :=
  ∀ (s : State) (x : Byte), s.RunsNext → s.Fetchable s.pc 4 → x = 0xDD ∨ x = 0xFD →
    (∀ op, op ∉ assignedED → s.Holds s.pc [0xED, op] →
      step s = .refused (.unassignedEncoding .unassignedED s.pc [0xED, op])) ∧
    (∀ op, op ∉ assignedIndex → op ≠ 0xCB → s.Holds s.pc [x, op] →
      step s = .refused (.unassignedEncoding .unassignedIndex s.pc [x, op])) ∧
    ∀ d op : Byte, op.toNat % 8 ≠ 6 → s.Holds s.pc [x, 0xCB, d, op] →
      step s = .refused (.unassignedEncoding .unassignedIndexBit s.pc [x, 0xCB, d, op])

/-- Every byte but the four prefixes is an opcode of the main page, and every byte after `CB` is one of its page:
those pages have no hole (rules R107, R108, R118). (Log entry 10.) -/
def Obligations.MainAndBitPagesHaveNoHole : Prop :=
  ∀ (op x y : Byte) (rest : List Byte),
    (∃ i more, decode (0xCB :: op :: rest) = .ok (i, more)) ∧
      (op ≠ 0xCB → op ≠ 0xED → op ≠ 0xDD → op ≠ 0xFD → ∃ i more, decode (op :: x :: y :: rest) = .ok (i, more))

/-- Byte strings that the spec itself spells out, decoded: the examples of rules R108, R111, R203, R312 to R314, R319
to R321. -/
def Obligations.SpelledOutWordsDecode : Prop :=
  decode [0xCB, 0x47] = .ok (.bit_b_A 0, []) ∧ decode [0xCB, 0x9A] = .ok (.res_b_D 3, []) ∧
    decode [0xCB, 0xFE] = .ok (.set_b_atHL 7, []) ∧ decode [0xCB, 0x3F] = .ok (.srl_A, []) ∧
    decode [0xFD, 0xCB, 0x05, 0xC6] = .ok (.set_b_atIYd 0 5, []) ∧
    decode [0xDD, 0xCB, 0xFF, 0x7E] = .ok (.bit_b_atIXd 7 0xFF, []) ∧
    decode [0x18, 0xFB] = .ok (.jr_e 0xFB, []) ∧ decode [0x4E] = .ok (.ld_C_atHL, []) ∧
    decode [0xDD, 0x46, 0x19] = .ok (.ld_B_atIXd 0x19, []) ∧ decode [0xFD, 0x71, 0x04] = .ok (.ld_atIYd_C 4, []) ∧
    decode [0xDD, 0x36, 0x05, 0x5A] = .ok (.ld_atIXd_n 5 0x5A, []) ∧
    decode [0xDD, 0x21, 0xA2, 0x45] = .ok (.ld_IX_nn 0x45A2, []) ∧
    decode [0xED, 0x4B, 0x30, 0x21] = .ok (.ld_BC_atNn 0x2130, []) ∧
    decode [0x22, 0x29, 0xB2] = .ok (.ld_atNn_HL 0xB229, [])

/-! ### Registers, flags and memory (10_state.md, 20_memory.md) -/

/-- Reading a register gives what was last written to it; writing one leaves the others, a half its other half, and a
pair is its two registers, the first named the more significant; `F` as a byte has the layout of rule R22 (rules R22,
R23, R25). The layouts are decision D5 and general knowledge (log entry 12). -/
def Obligations.RegistersPairsAndFlagByteAgree : Prop :=
  (∀ (s : State) (r q : Reg8) (v : Byte), (s.setReg8 r v).reg8 q = if q = r then v else s.reg8 q) ∧
    (∀ (s : State) (r : Reg16) (w : Word), (s.setReg16 r w).reg16 r = w) ∧
    (∀ s : State, s.bc.toNat = 256 * s.b.toNat + s.c.toNat ∧ s.de.toNat = 256 * s.d.toNat + s.e.toNat ∧
      s.hl.toNat = 256 * s.h.toNat + s.l.toNat ∧ s.af.toNat = 256 * s.a.toNat + s.f.toByte.toNat ∧
      s.ix.toNat = 256 * (s.reg8 .ixh).toNat + (s.reg8 .ixl).toNat ∧
      s.iy.toNat = 256 * (s.reg8 .iyh).toNat + (s.reg8 .iyl).toNat) ∧
    (∀ f : Flags, Flags.ofByte f.toByte = f ∧
      f.toByte.toNat = 128 * f.s.toNat + 64 * f.z.toNat + 32 * f.f5.toNat + 16 * f.h.toNat + 8 * f.f3.toNat +
        4 * f.pv.toNat + 2 * f.n.toNat + f.c.toNat) ∧
    ∀ v : Byte, (Flags.ofByte v).toByte = v

/-- A byte read is the byte last written where there is RAM; ROM keeps its bytes; where there is nothing a write does
nothing; a device is handed what is written; a read of a device or of nothing answers an unknown byte, the free value
of the address and of what has crossed the bus, and the read is recorded; a word is two such bytes, the less
significant at the lower address, and the second address wraps; what is pushed is popped (rules R62, R63, R65, R66,
R266, R267). Byte order and bus order are decisions D1 and D30 (log entries 10 and 21); what a device is handed, and
what the unknown byte depends on, is log entry 5. -/
def Obligations.MemoryReadsWhatWasWritten : Prop :=
  ∀ (s : State) (addr : Word) (v : Byte) (w : Word), Memory.wf s.mem = true →
    (s.kindAt addr = .ram → (s.writeByte addr v).readByte addr = (v, s.writeByte addr v)) ∧
    (s.kindAt addr = .ram ∨ s.kindAt addr = .rom → s.readByte addr = (s.peek addr, s)) ∧
    (s.kindAt addr = .unbacked ∨ s.kindAt addr = .device →
      let answer := Config.platformByte addr s.history
      s.readByte addr = (answer, { s with history := .memRead addr answer :: s.history })) ∧
    (s.kindAt addr = .rom ∨ s.kindAt addr = .unbacked → s.writeByte addr v = s) ∧
    (s.kindAt addr = .device → s.writeByte addr v = { s with history := .memWrite addr v :: s.history }) ∧
    (∀ other, other ≠ addr → (s.writeByte addr v).peek other = s.peek other) ∧
    (s.kindAt addr = .ram → s.kindAt (addr + 1) = .ram →
      (s.writeWord addr w).readWord addr = (w, s.writeWord addr w) ∧
        ((s.writeWord addr w).peek addr).toNat = w.toNat % 256 ∧
        ((s.writeWord addr w).peek (addr + 1)).toNat = w.toNat / 256 ∧
        s.writeWordHighFirst addr w = s.writeWord addr w) ∧
    (s.kindAt (s.sp - 2) = .ram → s.kindAt (s.sp - 1) = .ram →
      (s.push16 w).sp = s.sp - 2 ∧ (s.push16 w).pop16 = (w, { s.push16 w with sp := s.sp }))

/-! ### Loads (47_load.md) -/

/-- `LD dst,src` and `LD dst,n` between registers and index halves: the register takes the value, and nothing else
but `PC` changes (rules R310, R311). -/
def Obligations.ByteRegisterLoadsCopy : Prop :=
  ∀ (n : Byte) (s : State),
    (∀ x ∈ registerLoadForms, x.Does s (State.setReg8 x.operand.1 (s.reg8 x.operand.2) { s with pc := x.past s })) ∧
      ∀ x ∈ immediateLoadForms n, x.Does s (State.setReg8 x.operand n { s with pc := x.past s })

/-- A byte load from memory: the register takes the byte at the address as it was before the load (rules R312, R315,
R316). -/
def Obligations.ByteLoadsReadMemory : Prop :=
  ∀ (d : Byte) (nn : Word) (s : State), ∀ x ∈ byteLoadForms d nn,
    x.Does s (State.setReg8 x.operand.1 (s.byteAt (x.operand.2 s)).1
      { s with pc := x.past s, history := (s.byteAt (x.operand.2 s)).2 })

/-- A byte store: the byte is stored at the address, every other byte of memory reads as before, and nothing else but
`PC` changes (rules R313, R314, R317, R318). -/
def Obligations.ByteStoresWriteMemory : Prop :=
  ∀ (n d : Byte) (nn : Word) (s : State), Memory.wf s.mem = true → ∀ x ∈ byteStoreForms n d nn, ∃ t, x.Does s t ∧
    t = { s with
          pc := x.past s
          mem := t.mem
          history := s.handed (x.operand.1 s) (x.operand.2 s) ++ s.history } ∧
    StoresByte s t (x.operand.1 s) (x.operand.2 s)

/-- A 16-bit load of an immediate, and of `SP` from `HL`, `IX` or `IY` (rules R319, R322). -/
def Obligations.WordRegisterLoadsCopy : Prop :=
  ∀ (nn : Word) (s : State), ∀ x ∈ wordLoadForms nn,
    x.Does s (State.setReg16 x.operand.1 (x.operand.2 s) { s with pc := x.past s })

/-- A 16-bit load from memory: the low byte from `nn`, the high byte from `nn + 1` (rule R320). The low byte is read
first (decision D30: log entry 21). -/
def Obligations.WordLoadsReadMemory : Prop :=
  ∀ (nn : Word) (s : State), ∀ x ∈ wordFromMemoryForms nn,
    x.Does s (State.setReg16 x.operand (s.wordAt nn).1 { s with pc := x.past s, history := (s.wordAt nn).2 })

/-- A 16-bit store to memory: the low byte to `nn`, the high byte to `nn + 1`, every other byte as before (rule R321).
The low byte is written first (decision D30: log entry 21). -/
def Obligations.WordStoresWriteMemory : Prop :=
  ∀ (nn : Word) (s : State), Memory.wf s.mem = true → ∀ x ∈ wordToMemoryForms nn, ∃ t, x.Does s t ∧
    t = { s with
          pc := x.past s
          mem := t.mem
          history := s.handed (nn + 1) (hiByte (s.reg16 x.operand)) ++ s.handed nn (loByte (s.reg16 x.operand)) ++
            s.history } ∧
    StoresWord s t nn (s.reg16 x.operand)

/-- `LD I,A` and `LD R,A` change no flag; `LD A,I` and `LD A,R` set `S` and `Z` from the byte, reset `H` and `N`, and
show `IFF2` in `P/V` (rules R330 to R333). That the first two change no flag is decision D19, that `P/V` shows `IFF2`
decision D10 (log entry 28). -/
def Obligations.InterruptPageAndRefreshLoads : Prop :=
  ∀ s : State,
    Executes .ld_I_A [0xED, 0x47] s { s with i := s.a, pc := s.past [0xED, 0x47] } ∧
    Executes .ld_R_A [0xED, 0x4F] s { s with r := s.a, pc := s.past [0xED, 0x4F] } ∧
    Executes .ld_A_I [0xED, 0x57] s
      { s with
        a := s.i
        f := { parityFlags s.i false s.f.c s.draws with pv := s.iff2 }
        draws := s.draws + 1
        pc := s.past [0xED, 0x57] } ∧
    Executes .ld_A_R [0xED, 0x5F] s
      { s with
        a := s.r
        f := { parityFlags s.r false s.f.c s.draws with pv := s.iff2 }
        draws := s.draws + 1
        pc := s.past [0xED, 0x5F] }

/-! ### Arithmetic (40_arithmetic.md) -/

/-- `ADD A,s` and `ADC A,s`: the sum modulo 256, and the six flags of the exact sum (rules R130, R131, R41). The form
`ADD A,IYL`, which the source does not list, is decision D24 (log entry 25); the formulas of `H` and of overflow are
log entry 26. -/
def Obligations.AddingToTheAccumulator : Prop :=
  ∀ (n d : Byte) (s : State),
    (∀ x ∈ addForms n d, let v := s.operandRead x.operand
      x.Does s { s with
        a := BitVec.ofNat 8 (s.a.toNat + v.1.toNat)
        f := sumFlags s.a v.1 false s.draws
        draws := s.draws + 1
        history := v.2
        pc := x.past s }) ∧
    ∀ x ∈ adcForms n d, let v := s.operandRead x.operand
      x.Does s { s with
        a := BitVec.ofNat 8 (s.a.toNat + v.1.toNat + s.f.c.toNat)
        f := sumFlags s.a v.1 s.f.c s.draws
        draws := s.draws + 1
        history := v.2
        pc := x.past s }

/-- `SUB s`, `SBC A,s` and `NEG`: the difference modulo 256, and the six flags of the exact difference (rules R132,
R133, R135, R42). The four forms `SUB IXH` to `SUB IYL` are decision D24 (log entry 25). -/
def Obligations.SubtractingFromTheAccumulator : Prop :=
  ∀ (n d : Byte) (s : State),
    (∀ x ∈ subForms n d, let v := s.operandRead x.operand
      x.Does s { s with
        a := BitVec.ofInt 8 ((s.a.toNat : Int) - v.1.toNat)
        f := differenceFlags s.a v.1 false s.draws
        draws := s.draws + 1
        history := v.2
        pc := x.past s }) ∧
    (∀ x ∈ sbcForms n d, let v := s.operandRead x.operand
      x.Does s { s with
        a := BitVec.ofInt 8 ((s.a.toNat : Int) - v.1.toNat - s.f.c.toNat)
        f := differenceFlags s.a v.1 s.f.c s.draws
        draws := s.draws + 1
        history := v.2
        pc := x.past s }) ∧
    Executes .neg [0xED, 0x44] s
      { s with
        a := BitVec.ofInt 8 (-(s.a.toNat : Int))
        f := differenceFlags 0 s.a false s.draws
        draws := s.draws + 1
        pc := s.past [0xED, 0x44] }

/-- `CP s`: the flags of `SUB s` and nothing else; they tell equality, unsigned order and signed order (rule R134). -/
def Obligations.ComparingWithTheAccumulator : Prop :=
  ∀ (n d : Byte) (s : State), ∀ x ∈ cpForms n d, let v := s.operandRead x.operand
    ∃ f : Flags,
      x.Does s { s with f := f, draws := s.draws + 1, history := v.2, pc := x.past s } ∧
      f = differenceFlags s.a v.1 false s.draws ∧
      (f.z = true ↔ s.a = v.1) ∧ (f.c = true ↔ s.a.toNat < v.1.toNat) ∧ (f.s ≠ f.pv ↔ s.a.toInt < v.1.toInt)

/-- `INC m` and `DEC m`, 8-bit: the operand plus or minus 1, the flags of that sum or difference, `C` kept (rules R136,
R137, R43). -/
def Obligations.StepsOfABytePreserveCarry : Prop :=
  ∀ (d : Byte) (s : State), Memory.wf s.mem = true →
    (∀ x ∈ incForms d, let v := (s.placeRead x.operand).1
      ∃ t, x.Does s t ∧ Replaces s t x.operand (BitVec.ofNat 8 (v.toNat + 1))
        { sumFlags v 1 false s.draws with c := s.f.c } (s.draws + 1) (x.past s)) ∧
    ∀ x ∈ decForms d, let v := (s.placeRead x.operand).1
      ∃ t, x.Does s t ∧ Replaces s t x.operand (BitVec.ofInt 8 ((v.toNat : Int) - 1))
        { differenceFlags v 1 false s.draws with c := s.f.c } (s.draws + 1) (x.past s)

/-- `INC ss` and `DEC ss`, 16-bit: modulo 65536, and no flag (rules R138, R139). -/
def Obligations.StepsOfAWordTouchNoFlag : Prop :=
  ∀ s : State,
    (∀ x ∈ incWordForms,
      x.Does s (State.setReg16 x.operand (moved (s.reg16 x.operand) 1) { s with pc := x.past s })) ∧
    ∀ x ∈ decWordForms,
      x.Does s (State.setReg16 x.operand (moved (s.reg16 x.operand) (-1)) { s with pc := x.past s })

/-- `ADD HL,ss`, `ADD IX,pp`, `ADD IY,rr`: the sum modulo 65536, `N` reset, `C` the carry out, `H` undefined, `S`, `Z`
and `P/V` kept (rules R140, R44, R45). What "the rest" of the flags is, is decision D29 (log entry 26). -/
def Obligations.AddingWords : Prop :=
  ∀ s : State, ∀ x ∈ addWordForms,
    let a := s.reg16 x.operand.1
    let v := s.reg16 x.operand.2
    x.Does s (State.setReg16 x.operand.1 (BitVec.ofNat 16 (a.toNat + v.toNat))
      { s with
        f := { s.f.redrawn s.draws with
          h := (freeFlagsAt s.draws).h, n := false, c := decide (65536 ≤ a.toNat + v.toNat) }
        draws := s.draws + 1
        pc := x.past s })

/-- `ADC HL,ss` and `SBC HL,ss`: the sum or difference with carry modulo 65536, and all six flags of it, `H` undefined
(rules R141, R142, R44, R45). What "the rest" of the flags is, is decision D29 (log entry 26). -/
def Obligations.AddingWordsWithCarry : Prop :=
  ∀ s : State,
    (∀ x ∈ adcWordForms, let v := s.reg16 x.operand
      x.Does s (State.setReg16 .hl (BitVec.ofNat 16 (s.hl.toNat + v.toNat + s.f.c.toNat))
        { s with f := wordSumFlags s.hl v s.f.c s.draws, draws := s.draws + 1, pc := x.past s })) ∧
    ∀ x ∈ sbcWordForms, let v := s.reg16 x.operand
      x.Does s (State.setReg16 .hl (BitVec.ofInt 16 ((s.hl.toNat : Int) - v.toNat - s.f.c.toNat))
        { s with f := wordDifferenceFlags s.hl v s.f.c s.draws, draws := s.draws + 1, pc := x.past s })

/-- `DAA`: the correction by digits, added or subtracted as `N` says, and the flags (rule R143). The algorithm is
decision D21 (log entry 23). -/
def Obligations.DecimalAdjustment : Prop :=
  ∀ s : State,
    let a := s.a.toNat
    let low : Nat := if s.f.h = true ∨ 9 < a % 16 then 6 else 0
    let high : Nat := if s.f.c = true ∨ 0x99 < a then 0x60 else 0
    let result : Byte := BitVec.ofInt 8 (if s.f.n then (a : Int) - (high + low) else a + (high + low))
    Executes .daa [0x27] s
      { s with
        a := result
        f := { parityFlags result (if s.f.n then s.f.h && decide (a % 16 < 6) else decide (9 < a % 16))
                (decide (high = 0x60)) s.draws with n := s.f.n }
        draws := s.draws + 1
        pc := s.past [0x27] }

/-! ### Logic and bits (41_logic_bit.md) -/

/-- `AND s`, `OR s`, `XOR s`: bit by bit, with `S`, `Z` and parity of the result, `N` and `C` reset, `H` set by `AND`
only (rules R170 to R172, decision D27). (`H`: log entry 26.) -/
def Obligations.LogicOnTheAccumulator : Prop :=
  ∀ (n d : Byte) (s : State),
    (∀ x ∈ andForms n d, let v := s.operandRead x.operand
      ∃ res : Byte, (∀ k < 8, res.getLsbD k = (s.a.getLsbD k && v.1.getLsbD k)) ∧
        x.Does s { s with a := res, f := parityFlags res true false s.draws, draws := s.draws + 1, history := v.2,
                          pc := x.past s }) ∧
    (∀ x ∈ orForms n d, let v := s.operandRead x.operand
      ∃ res : Byte, (∀ k < 8, res.getLsbD k = (s.a.getLsbD k || v.1.getLsbD k)) ∧
        x.Does s { s with a := res, f := parityFlags res false false s.draws, draws := s.draws + 1, history := v.2,
                          pc := x.past s }) ∧
    ∀ x ∈ xorForms n d, let v := s.operandRead x.operand
      ∃ res : Byte, (∀ k < 8, res.getLsbD k = (s.a.getLsbD k != v.1.getLsbD k)) ∧
        x.Does s { s with a := res, f := parityFlags res false false s.draws, draws := s.draws + 1, history := v.2,
                          pc := x.past s }

/-- `CPL`, `CCF`, `SCF` (rules R174 to R176; `CCF` inverts `H`, as the source says: log entry 8). -/
def Obligations.ComplementAndCarryFlagInstructions : Prop :=
  ∀ s : State,
    Executes .cpl [0x2F] s
      { s with
        a := BitVec.ofNat 8 (255 - s.a.toNat)
        f := { s.f.redrawn s.draws with h := true, n := true }
        draws := s.draws + 1
        pc := s.past [0x2F] } ∧
    Executes .ccf [0x3F] s
      { s with
        f := { s.f.redrawn s.draws with c := !s.f.c, h := !s.f.h, n := false }
        draws := s.draws + 1
        pc := s.past [0x3F] } ∧
    Executes .scf [0x37] s
      { s with
        f := { s.f.redrawn s.draws with c := true, h := false, n := false }
        draws := s.draws + 1
        pc := s.past [0x37] }

/-- `BIT b,m8`: `Z` is the opposite of the bit, `H` set, `N` reset, `C` kept, `S` and `P/V` undefined; the operand is
not written (rules R177, R45). -/
def Obligations.BitTestSetsZeroFlag : Prop :=
  ∀ (b : Nat) (d : Byte) (s : State), b < 8 → ∀ x ∈ bitForms b d, let v := s.placeRead x.operand
    x.Does s { s with
      f := { s.f.redrawn s.draws with
        s := (freeFlagsAt s.draws).s, z := decide (v.1.toNat / 2 ^ b % 2 = 0), h := true
        pv := (freeFlagsAt s.draws).pv, n := false }
      draws := s.draws + 1
      history := v.2
      pc := x.past s }

/-- `RES b,m8` and `SET b,m8`: the one bit is 0 or 1 after, the other seven are kept, and no flag changes (rules R178,
R179). -/
def Obligations.BitResetAndSetChangeOneBit : Prop :=
  ∀ (b : Nat) (d : Byte) (s : State), b < 8 → Memory.wf s.mem = true →
    (∀ x ∈ resForms b d, let v := (s.placeRead x.operand).1
      ∃ t, x.Does s t ∧
        Replaces s t x.operand (BitVec.ofNat 8 (v.toNat - if v.getLsbD b then 2 ^ b else 0)) s.f s.draws (x.past s)) ∧
    ∀ x ∈ setForms b d, let v := (s.placeRead x.operand).1
      ∃ t, x.Does s t ∧
        Replaces s t x.operand (BitVec.ofNat 8 (v.toNat + if v.getLsbD b then 0 else 2 ^ b)) s.f s.draws (x.past s)

/-! ### Rotates and shifts (48_rotate_shift.md) -/

/-- `RLCA`, `RLA`, `RRCA`, `RRA`: `A` rotated by one place, `C` the bit that left it, `H` and `N` reset, `S`, `Z` and `P/V`
kept (rules R350 to R353). -/
def Obligations.AccumulatorRotates : Prop :=
  ∀ s : State,
    let a := s.a.toNat
    let c := s.f.c.toNat
    ∀ x ∈ ([⟨.rlca, [0x07], (2 * a % 256 + a / 128, a / 128)⟩, ⟨.rla, [0x17], (2 * a % 256 + c, a / 128)⟩,
          ⟨.rrca, [0x0F], (a / 2 + 128 * (a % 2), a % 2)⟩, ⟨.rra, [0x1F], (a / 2 + 128 * c, a % 2)⟩] :
        List (Form (Nat × Nat))),
      x.Does s { s with
        a := BitVec.ofNat 8 x.operand.1
        f := { s.f.redrawn s.draws with h := false, n := false, c := decide (x.operand.2 = 1) }
        draws := s.draws + 1
        pc := x.past s }

/-- `RLC`, `RL`, `RRC`, `RR`, `SLA`, `SLL`, `SRA`, `SRL` on a register or a byte of memory: the operand moved by one
place, the bit that enters, the bit that leaves in `C`, `S`, `Z` and parity of the result, `H` and `N` reset (rules R354
to R361). -/
def Obligations.ShiftsAndRotatesOfAnOperand : Prop :=
  ∀ (d : Byte) (s : State), Memory.wf s.mem = true →
    ∀ k ∈ ([(rlcForms d, fun v _ => (2 * v % 256 + v / 128, v / 128)), (rlForms d, fun v c => (2 * v % 256 + c, v / 128)),
          (rrcForms d, fun v _ => (v / 2 + 128 * (v % 2), v % 2)), (rrForms d, fun v c => (v / 2 + 128 * c, v % 2)),
          (slaForms d, fun v _ => (2 * v % 256, v / 128)), (sllForms d, fun v _ => (2 * v % 256 + 1, v / 128)),
          (sraForms d, fun v _ => (v / 2 + 128 * (v / 128), v % 2)), (srlForms d, fun v _ => (v / 2, v % 2))] :
        List (List (Form Place8) × (Nat → Nat → Nat × Nat))),
      ∀ x ∈ k.1,
        let moved := k.2 (s.placeRead x.operand).1.toNat s.f.c.toNat
        let res : Byte := BitVec.ofNat 8 moved.1
        ∃ t, x.Does s t ∧
          Replaces s t x.operand res (parityFlags res false (decide (moved.2 = 1)) s.draws) (s.draws + 1) (x.past s)

/-- `RLD` and `RRD`: the 12-bit number of `A`'s low digit and the byte at `HL`, rotated by a digit; `S`, `Z` and parity of
the new `A`, `H` and `N` reset, `C` kept (rules R362, R363). -/
def Obligations.DecimalDigitRotates : Prop :=
  ∀ s : State, Memory.wf s.mem = true →
    let hl := joinBytes s.h s.l
    let m := s.byteAt hl
    let number := s.a.toNat % 16 * 256 + m.1.toNat
    ∀ x ∈ ([⟨.rld, [0xED, 0x6F], number * 16 % 4096 + number / 256⟩,
          ⟨.rrd, [0xED, 0x67], number / 16 + number % 16 * 256⟩] : List (Form Nat)),
      let a : Byte := BitVec.ofNat 8 (s.a.toNat / 16 * 16 + x.operand / 256)
      let left : Byte := BitVec.ofNat 8 (x.operand % 256)
      ∃ t, x.Does s t ∧
        t = { s with
              a := a
              f := parityFlags a false s.f.c s.draws
              draws := s.draws + 1
              pc := x.past s
              mem := t.mem
              history := s.handed hl left ++ m.2 } ∧
        StoresByte s t hl left

/-! ### Control transfers (42_control.md) -/

/-- `JP nn`, `JP cc,nn`, `JP (HL)`, `JP (IX)`, `JP (IY)`: only `PC` changes (rules R200 to R202, R48). That `JP (HL)`
reads no memory is decision D22 (log entry 32). -/
def Obligations.AbsoluteJumps : Prop :=
  ∀ (nn : Word) (s : State),
    Executes (.jp_nn nn) [0xC3, loByte nn, hiByte nn] s { s with pc := nn } ∧
    (∀ x ∈ jumpIfForms nn, x.Does s { s with pc := if x.operand s.f then nn else x.past s }) ∧
    ∀ x ∈ jumpRegisterForms, x.Does s { s with pc := x.operand s }

/-- `JR e`, `JR cc,e`, `DJNZ e`: the target is the signed byte from the following instruction's address on, modulo
65536; `DJNZ` counts `B` down and jumps while it is not 0; no flag changes (rules R106, R203 to R205). -/
def Obligations.RelativeJumps : Prop :=
  ∀ (e : Byte) (s : State),
    let target : Word := BitVec.ofInt 16 ((s.pc.toNat : Int) + 2 + e.toInt)
    Executes (.jr_e e) [0x18, e] s { s with pc := target } ∧
    (∀ x ∈ jumpRelativeIfForms e, x.Does s { s with pc := if x.operand s.f then target else x.past s }) ∧
    let b : Byte := BitVec.ofNat 8 (s.b.toNat + 255)
    Executes (.djnz_e e) [0x10, e] s
      { s with b := b, pc := if b.toNat = 0 then BitVec.ofNat 16 (s.pc.toNat + 2) else target }

/-- `CALL nn`, `CALL cc,nn`, `RST t`: the address of the following instruction is pushed and control moves; a call not
taken touches neither `SP` nor memory (rules R206, R207, R212, R266). The high byte is stored first (log entry 21). -/
def Obligations.CallsAndRestarts : Prop :=
  ∀ (nn : Word) (s : State), Memory.wf s.mem = true →
    (∃ t, Executes (.call_nn nn) [0xCD, loByte nn, hiByte nn] s t ∧ Pushes s t (BitVec.ofNat 16 (s.pc.toNat + 3)) nn) ∧
    (∀ x ∈ callIfForms nn, ∃ t, x.Does s t ∧
      if x.operand s.f then Pushes s t (x.past s) nn else t = { s with pc := x.past s }) ∧
    ∀ x ∈ restartForms, ∃ t, x.Does s t ∧ Pushes s t (x.past s) x.operand

/-- `RET` and `RET cc`: `PC` takes the word at `SP`, and `SP` is raised by 2; a return not taken reads nothing (rules
R208, R209, R267). The low byte is read first (log entry 21). -/
def Obligations.Returns : Prop :=
  ∀ s : State,
    let popped : State := { s with sp := s.sp + 2, pc := (s.wordAt s.sp).1, history := (s.wordAt s.sp).2 }
    Executes .ret [0xC9] s popped ∧
    ∀ x ∈ returnIfForms, x.Does s (if x.operand s.f then popped else { s with pc := x.past s })

/-- `RETI` and `RETN`: a return that also copies `IFF2` to `IFF1` (rules R210, R211, R413, R414, decision D32). (Log
entry 31.) -/
def Obligations.ReturnsFromInterrupts : Prop :=
  ∀ s : State, ∀ x ∈ ([⟨.reti, [0xED, 0x4D], ()⟩, ⟨.retn, [0xED, 0x45], ()⟩] : List (Form Unit)),
    x.Does s { s with
      sp := s.sp + 2, pc := (s.wordAt s.sp).1, history := (s.wordAt s.sp).2, iff1 := s.iff2 }

/-! ### Block moves and compares (43_block.md) -/

/-- `LDI`, `LDD`, and one iteration of `LDIR`, `LDDR`: the byte at `HL` goes to `DE`, the pointers move, `BC` counts
down, `P/V` tells whether count remains, `H` and `N` are reset; a repeating form stays on itself while count remains
(rules R231, R236 to R239). One iteration a step is decision D12 (log entry 33), `H` and `N` decision D26 (log entry
26). -/
def Obligations.BlockMoves : Prop :=
  ∀ s : State, Memory.wf s.mem = true →
    ∀ x ∈ ([⟨.ldi, [0xED, 0xA0], (1, false)⟩, ⟨.ldd, [0xED, 0xA8], (-1, false)⟩, ⟨.ldir, [0xED, 0xB0], (1, true)⟩,
          ⟨.lddr, [0xED, 0xB8], (-1, true)⟩] : List (Form (Int × Bool))),
      let v := s.byteAt s.hl
      let source := moved s.hl x.operand.1
      let target := moved s.de x.operand.1
      let count := moved s.bc (-1)
      ∃ t, x.Does s t ∧
        t = { s with
              b := hiByte count
              c := loByte count
              d := hiByte target
              e := loByte target
              h := hiByte source
              l := loByte source
              f := { s.f.redrawn s.draws with pv := decide (count ≠ 0), h := false, n := false }
              draws := s.draws + 1
              pc := if x.operand.2 = true ∧ count ≠ 0 then s.pc else x.past s
              mem := t.mem
              history := s.handed s.de v.1 ++ v.2 } ∧
        StoresByte s t s.de v.1

/-- `CPI`, `CPD`, and one iteration of `CPIR`, `CPDR`: `A` is compared with the byte at `HL`, the pointer moves, `BC`
counts down; `S`, `Z`, `H` and `N` are those of the difference, `P/V` tells whether count remains, `C` is kept; a
repeating form stays on itself while count remains and the byte differs; nothing is stored (rules R231 to R235). One
iteration a step is decision D12 (log entry 33), `P/V` decision D20 (log entry 26). -/
def Obligations.BlockCompares : Prop :=
  ∀ s : State,
    ∀ x ∈ ([⟨.cpi, [0xED, 0xA1], (1, false)⟩, ⟨.cpd, [0xED, 0xA9], (-1, false)⟩, ⟨.cpir, [0xED, 0xB1], (1, true)⟩,
          ⟨.cpdr, [0xED, 0xB9], (-1, true)⟩] : List (Form (Int × Bool))),
      let v := s.byteAt s.hl
      let source := moved s.hl x.operand.1
      let count := moved s.bc (-1)
      x.Does s { s with
        b := hiByte count
        c := loByte count
        h := hiByte source
        l := loByte source
        f := { differenceFlags s.a v.1 false s.draws with pv := decide (count ≠ 0), c := s.f.c }
        draws := s.draws + 1
        pc := if x.operand.2 = true ∧ count ≠ 0 ∧ s.a ≠ v.1 then s.pc else x.past s
        history := v.2 }

/-- `LDIR` run to its end on an all-RAM platform with nothing requested: from `n = BC` not 0, with no byte written that
is still to be read and none of the instruction's own, `n` steps copy `n` bytes, leave every other byte, `BC` 0, the
pointers past the blocks, `P/V`, `H` and `N` reset and `S`, `Z`, `C` as they were, count `2 n` opcode fetches and
`21 (n - 1) + 16` T-states, and change nothing else, but that an `EI` shadow is consumed (rules R231, R236, R238, R465,
R475). (Decisions D12, D15 and D26: log entries 33, 11 and 26; the count of flag writes: log entry 3; T-states: log
entry 20.) A block that reaches the instruction, such as the 65536 bytes of `BC` = 0, is left to `BlockMoves`, which
says what each iteration does. -/
def Obligations.RepeatedMoveCopiesTheBlock : Prop :=
  ∀ (s : State) (n : Nat), s.AllRam → s.pins = [] → s.RunsNext → Memory.wf s.mem = true →
    s.Holds s.pc [0xED, 0xB0] → n = s.bc.toNat → n ≠ 0 →
    (∀ k < n, s.de + BitVec.ofNat 16 k ≠ s.pc ∧ s.de + BitVec.ofNat 16 k ≠ s.pc + 1) →
    (∀ j < n, ∀ k < j, s.hl + BitVec.ofNat 16 j ≠ s.de + BitVec.ofNat 16 k) →
    ∃ t : State, Host.Core.run Sys2Proof.core n s = .next t ∧
      t = { s with
            b := 0
            c := 0
            d := hiByte (moved s.de n)
            e := loByte (moved s.de n)
            h := hiByte (moved s.hl n)
            l := loByte (moved s.hl n)
            f := { s.f.redrawn (s.draws + (n - 1)) with pv := false, h := false, n := false }
            draws := s.draws + n
            pc := s.past [0xED, 0xB0]
            r := counted s.r (2 * n)
            eiShadow := false
            mem := t.mem
            tStates := s.tStates + 21 * (n - 1) + 16 } ∧
      (∀ k < n, t.peek (s.de + BitVec.ofNat 16 k) = s.peek (s.hl + BitVec.ofNat 16 k)) ∧
      ∀ addr, (∀ k < n, addr ≠ s.de + BitVec.ofNat 16 k) → t.peek addr = s.peek addr

/-! ### Input and output (46_io.md) -/

/-- `IN A,(n)`, `IN r,(C)`, `IN (C)`: the port's answer, an unknown byte, is loaded, and the port is read once; the
high byte of the port is `A` or `B`; `IN A,(n)` changes no flag, the other forms set them from the byte (rules R64,
R280 to R282, decision D28). The port's high byte is decision D4 (log entry 27), the answer log entry 4, `H` log entry
26. -/
def Obligations.Inputs : Prop :=
  ∀ (n : Byte) (s : State),
    (let port := portOf s.a n
     let v := Config.ioByte port s.history
     Executes (.in_A_atN n) [0xDB, n] s
      { s with a := v, history := .ioRead port v :: s.history, pc := s.past [0xDB, n] }) ∧
    let port := portOf s.b s.c
    let v := Config.ioByte port s.history
    (∀ x ∈ inputForms, x.Does s (State.setReg8 x.operand v
      { s with
        f := parityFlags v false s.f.c s.draws
        draws := s.draws + 1
        history := .ioRead port v :: s.history
        pc := x.past s })) ∧
    Executes .in_atC [0xED, 0x70] s
      { s with
        f := parityFlags v false s.f.c s.draws
        draws := s.draws + 1
        history := .ioRead port v :: s.history
        pc := s.past [0xED, 0x70] }

/-- `OUT (n),A`, `OUT (C),r`, `OUT (C),0`: the platform is handed the byte at the port, once, and nothing else but
`PC` changes (rules R64, R290, R291, R293; `OUT (C),0` writes zero: log entry 14). The port's high byte is decision D4
(log entry 27). -/
def Obligations.Outputs : Prop :=
  ∀ (n : Byte) (s : State),
    Executes (.out_atN_A n) [0xD3, n] s
      { s with history := .ioWrite (portOf s.a n) s.a :: s.history, pc := s.past [0xD3, n] } ∧
    ∀ x ∈ outputForms, x.Does s
      { s with history := .ioWrite (portOf s.b s.c) (x.operand s) :: s.history, pc := x.past s }

/-- `INI`, `IND`, and one iteration of `INIR`, `INDR`: the port `BC`, `B` before its decrement, is read once and the
byte stored at `HL`; `HL` moves, `B` counts down, `Z` tells whether it is 0, `N` is as the source says (log entry 9),
`C` is kept, `S`, `H` and `P/V` are undefined; a repeating form stays on itself while `B` is not 0 (rules R231, R283
to R286). (Decisions D4, D12: log entries 27, 33.) -/
def Obligations.BlockInputs : Prop :=
  ∀ s : State, Memory.wf s.mem = true →
    ∀ x ∈ ([⟨.ini, [0xED, 0xA2], (1, false)⟩, ⟨.ind, [0xED, 0xAA], (-1, false)⟩, ⟨.inir, [0xED, 0xB2], (1, true)⟩,
          ⟨.indr, [0xED, 0xBA], (-1, true)⟩] : List (Form (Int × Bool))),
      let port := portOf s.b s.c
      let v := Config.ioByte port s.history
      let pointer := moved s.hl x.operand.1
      let count : Byte := BitVec.ofNat 8 (s.b.toNat + 255)
      ∃ t, x.Does s t ∧
        t = { s with
              b := count
              h := hiByte pointer
              l := loByte pointer
              f := { freeFlagsAt s.draws with
                z := decide (count.toNat = 0), n := decide (x.operand.1 = -1), c := s.f.c }
              draws := s.draws + 1
              pc := if x.operand.2 = true ∧ count.toNat ≠ 0 then s.pc else x.past s
              mem := t.mem
              history := s.handed s.hl v ++ .ioRead port v :: s.history } ∧
        StoresByte s t s.hl v

/-- `OUTI`, `OUTD`, and one iteration of `OTIR`, `OTDR`: the byte at `HL` goes once to the port `BC`, `B` after its
decrement; pointer, count and flags as the block inputs; nothing is stored (rules R231, R294 to R297). (Decisions D4,
D12: log entries 27, 33.) -/
def Obligations.BlockOutputs : Prop :=
  ∀ s : State,
    ∀ x ∈ ([⟨.outi, [0xED, 0xA3], (1, false)⟩, ⟨.outd, [0xED, 0xAB], (-1, false)⟩, ⟨.otir, [0xED, 0xB3], (1, true)⟩,
          ⟨.otdr, [0xED, 0xBB], (-1, true)⟩] : List (Form (Int × Bool))),
      let v := s.byteAt s.hl
      let pointer := moved s.hl x.operand.1
      let count : Byte := BitVec.ofNat 8 (s.b.toNat + 255)
      x.Does s { s with
        b := count
        h := hiByte pointer
        l := loByte pointer
        f := { freeFlagsAt s.draws with z := decide (count.toNat = 0), n := decide (x.operand.1 = -1), c := s.f.c }
        draws := s.draws + 1
        pc := if x.operand.2 = true ∧ count.toNat ≠ 0 then s.pc else x.past s
        history := .ioWrite (portOf count s.c) v.1 :: v.2 }

/-! ### System control, exchanges and the stack (44_system.md, 45_exchange_stack.md) -/

/-- `NOP`, `DI`, `EI`, `HALT`, `IM 0`, `IM 1`, `IM 2` (rules R250 to R254). Two enables, the `EI` shadow and the `PC`
after `HALT` are decisions D10, D11, D14 (log entries 13 and 17). -/
def Obligations.SystemControlInstructions : Prop :=
  ∀ s : State,
    Executes .nop [0x00] s { s with pc := s.past [0x00] } ∧
    Executes .di [0xF3] s { s with iff1 := false, iff2 := false, pc := s.past [0xF3] } ∧
    Executes .ei [0xFB] s { s with iff1 := true, iff2 := true, eiShadow := true, pc := s.past [0xFB] } ∧
    Executes .halt [0x76] s { s with halted := true, pc := s.past [0x76] } ∧
    ∀ x ∈ modeForms, x.Does s { s with im := x.operand, pc := x.past s }

/-- `EX AF,AF'`, `EX DE,HL`, `EXX`: the named registers change places, and nothing else but `PC` changes (rules R260,
R261, R264). -/
def Obligations.RegisterExchanges : Prop :=
  ∀ s : State,
    Executes .ex_AF_AFshadow [0x08] s
      { s with a := s.aShadow, f := s.fShadow, aShadow := s.a, fShadow := s.f, pc := s.past [0x08] } ∧
    Executes .ex_DE_HL [0xEB] s { s with d := s.h, e := s.l, h := s.d, l := s.e, pc := s.past [0xEB] } ∧
    Executes .exx [0xD9] s
      { s with
        b := s.bShadow, c := s.cShadow, d := s.dShadow, e := s.eShadow, h := s.hShadow, l := s.lShadow
        bShadow := s.b, cShadow := s.c, dShadow := s.d, eShadow := s.e, hShadow := s.h, lShadow := s.l
        pc := s.past [0xD9] }

/-- `EX (SP),HL`, `EX (SP),IX`, `EX (SP),IY`: the register and the word at `SP` change places; `SP` stays; the word is
read low byte first and written high byte first (rules R262, R263, R66). The bus order is decision D30 (log entry 21). -/
def Obligations.ExchangesWithTheStackTop : Prop :=
  ∀ s : State, Memory.wf s.mem = true → ∀ x ∈ exchangeTopForms, ∃ t, x.Does s t ∧
    t = State.setReg16 x.operand (s.wordAt s.sp).1
      { s with
        pc := x.past s
        mem := t.mem
        history := s.handed s.sp (loByte (s.reg16 x.operand)) ++
          s.handed (s.sp + 1) (hiByte (s.reg16 x.operand)) ++ (s.wordAt s.sp).2 } ∧
    StoresWord s t s.sp (s.reg16 x.operand)

/-- `PUSH qq` and `POP qq`: the word is stored below the old `SP`, or loaded from `SP`; `POP AF` loads all eight bits
of `F` (rules R266 to R269). The bus order is decision D30 (log entry 21). -/
def Obligations.PushAndPop : Prop :=
  ∀ s : State,
    (Memory.wf s.mem = true → ∀ x ∈ pushForms, ∃ t, x.Does s t ∧ Pushes s t (s.reg16 x.operand) (x.past s)) ∧
    ∀ x ∈ popForms, x.Does s (State.setReg16 x.operand (s.wordAt s.sp).1
      { s with sp := s.sp + 2, pc := x.past s, history := (s.wordAt s.sp).2 })

/-! ### The step (60_exceptions.md, 70_reset_and_hazards.md) -/

/-- A step at which nothing comes first runs the instruction that the fetched bytes decode to: what `exec` answers,
the opcode fetches counted in `R` before it and the T-states after it (rule R402). The counting of `R` is decision D15
(log entry 11), that of T-states log entry 20. -/
def Obligations.AStepRunsTheDecodedInstruction : Prop :=
  ∀ (s t : State) (i : Instr) (rest : List Byte), s.RunsNext → decode s.atFetch.fetch.1 = .ok (i, rest) →
    exec i (s.atFetch.fetch.2.countFetches (fetchCount s.atFetch.fetch.1)) = .next t →
    step s = .next { t with tStates := t.tStates + instrTStates i t }

/-- Where memory holds the bytes of a well-formed instruction at `PC`, in RAM or ROM, at any address, the wrap from
$FFFF to $0000 included, the step runs that instruction; `R` counts 2 fetches with a prefix, also behind `DD CB` and
`FD CB`, else 1 (rules R31, R73, R77, R402). The counting of `R` is decision D15 (log entry 11), that of T-states log
entry 20. -/
def Obligations.AStepRunsTheInstructionInMemory : Prop :=
  ∀ (s : State) (i : Instr), i.wellFormed = true → s.RunsNext → s.Holds s.pc (encode i) →
    s.Fetchable s.pc (encode i).length →
    let fetches : Nat := if (encode i).head? ∈ [some 0xCB, some 0xED, some 0xDD, some (0xFD : Byte)] then 2 else 1
    ∃ t, exec i { s.atFetch with r := counted s.r fetches } = .next t ∧
      step s = .next { t with tStates := t.tStates + instrTStates i t }

/-- The reset state holds the values the spec gives: `PC`, `I`, `R` zero, interrupts disabled, mode 0, no latch set
(rule R50). The other registers' values are the model's choice (log entry 1) and are not stated. -/
def Obligations.ResetStateHoldsTheSpecsValues : Prop :=
  State.reset.pc = 0x0000 ∧ State.reset.i = 0x00 ∧ State.reset.r = 0x00 ∧ State.reset.iff1 = false ∧
    State.reset.iff2 = false ∧ State.reset.im = .mode0 ∧ State.reset.halted = false ∧
    State.reset.eiShadow = false ∧ State.reset.nmiPending = false

/-- A requested reset comes before everything else and changes what the spec lists, nothing more: every other register
and all memory stay (rules R409, R450). Decisions D13 and D31 (log entries 17 and 24). That the step counts no T-states and
keeps the counter is the model's choice (log entry 20). -/
def Obligations.ResetComesFirst : Prop :=
  ∀ s : State, s.nextPins.reset = true →
    step s = .next { s with
      pins := s.pins.tail
      pc := 0x0000
      i := 0x00
      r := 0x00
      iff1 := false
      iff2 := false
      im := .mode0
      halted := false
      eiShadow := false
      nmiPending := false }

/-- A pending NMI, or an edge at this boundary, is taken before a maskable interrupt and whatever `IFF1` is: `PC` is
pushed, control moves to $0066, `IFF1` is cleared, `IFF2` keeps the enable that was, and nothing else is saved (rules
R408, R409, R412). Decision D9 (log entry 17); 11 T-states (log entry 20). -/
def Obligations.NonMaskableInterruptIsTaken : Prop :=
  ∀ s : State, Memory.wf s.mem = true → s.nextPins.reset = false →
    s.nmiPending = true ∨ s.nextPins.nmiEdge = true →
    ∃ t, step s = .next t ∧
      Pushes { s.interrupted with nmiPending := false, tStates := s.tStates + 11 } t s.pc 0x0066

/-- A maskable interrupt in mode 1 pushes `PC` and moves to $0038; in mode 2 it pushes `PC` and then takes the
handler's address from the table entry at `I ++ data`; in mode 0 a supplied `RST` pushes `PC` and moves to its target,
and any other supplied byte is refused. Both enables are cleared (rules R404 to R407, R412). Decisions D8, D33, D34
(log entries 15, 16, 17); the T-states are log entry 20. -/
def Obligations.MaskableInterruptIsTaken : Prop :=
  ∀ s : State, Memory.wf s.mem = true → s.MaskableDue →
    let taken : State := { s.interrupted with iff2 := false }
    (s.im = .mode1 → ∃ t, step s = .next t ∧ Pushes { taken with tStates := s.tStates + 13 } t s.pc 0x0038) ∧
    (s.im = .mode2 → ∃ t u, Pushes { taken with tStates := s.tStates + 19 } u s.pc s.pc ∧
      t = { u with
        pc := (u.wordAt (joinBytes s.i s.nextPins.intData)).1
        history := (u.wordAt (joinBytes s.i s.nextPins.intData)).2 } ∧
      step s = .next t) ∧
    (s.im = .mode0 → ∀ y : Nat, y < 8 → s.nextPins.intData = BitVec.ofNat 8 (0xC7 + 8 * y) →
      ∃ t, step s = .next t ∧
        Pushes { taken with tStates := s.tStates + Config.modeZeroTStates } t s.pc (BitVec.ofNat 16 (8 * y))) ∧
    (s.im = .mode0 → (∀ y : Nat, y < 8 → s.nextPins.intData ≠ BitVec.ofNat 8 (0xC7 + 8 * y)) →
      step s = .refused (.modeZeroInstruction s.nextPins.intData))

/-- The boundary right after `EI` takes no maskable interrupt: the step is the one that a released request line would
give; and only a step that runs `EI`, no reset, acceptance or idle step, leaves that shadow behind (rules R402, R411).
Decision D11 (log entry 17). -/
def Obligations.EnableTakesEffectOneInstructionLater : Prop :=
  (∀ (s : State) (p : Pins) (later : List Pins), s.pins = p :: later → s.eiShadow = true →
    step s = step { s with pins := { p with intLine := false } :: later }) ∧
  ∀ s t : State, step s = .next t → t.eiShadow = true → s.RunsOneOf [.ei]

/-- A halted CPU at a boundary where nothing is accepted idles: only `R` counts, and the time (rules R402, R440). A
maskable request with interrupts disabled does not wake it. Decision D14 (log entry 13); that an idle step counts 4
T-states is log entry 20. -/
def Obligations.HaltedStepIdles : Prop :=
  ∀ s : State, s.halted = true → s.nextPins.reset = false → s.nmiPending = false → s.nextPins.nmiEdge = false →
    (s.nextPins.intLine = false ∨ s.iff1 = false ∨ s.eiShadow = true) →
    step s = .next { s with
      pins := s.pins.tail, eiShadow := false, r := counted s.r 1, tStates := s.tStates + 4 }

/-- The end of a run: halted with interrupts disabled and no NMI or reset to come, however many steps follow only `R`
and the time change, whatever the maskable request line does (rules R440, R441). Decision D14 (log entry 13); that an idle step counts 4
T-states is log entry 20. -/
def Obligations.TerminalStateNeverEnds : Prop :=
  ∀ (n : Nat) (s : State), s.Terminal →
    Host.Core.run Sys2Proof.core n s = .next { s with
      pins := s.pins.drop n
      eiShadow := s.eiShadow && decide (n = 0)
      r := counted s.r n
      tStates := s.tStates + 4 * n }

/-- The invariant holds of the reset state: interrupts are disabled there (rules R33, R50) and the `EI` shadow is clear
(rules R411, R450). That memory is a list in canonical form, empty at reset, is the model's own (log entry 2); the
enables are decisions D10 and D11 (log entry 17). -/
def Obligations.ResetStateIsGood : Prop := State.reset.Inv

/-- Every step that ends in a next state keeps the invariant: memory canonical, `IFF1` not without `IFF2`, the `EI`
shadow not without `IFF1` (rules R33, R61, R411). The canonical form is the model's own (log entry 2), the enables are
decisions D10 and D11 (log entry 17). -/
def Obligations.EveryStepKeepsTheInvariant : Prop :=
  ∀ s t : State, s.Inv → step s = .next t → t.Inv

/-- No step changes what an address that is not RAM holds, nor what backs any address (rules R61, R63). The map is
constant (log entry 18). -/
def Obligations.NoStepWritesReadOnlyMemory : Prop :=
  ∀ s t : State, step s = .next t →
    t.memMap = s.memMap ∧ ∀ addr, s.kindAt addr ≠ .ram → t.peek addr = s.peek addr

/-- The shadow set is changed by a step that runs `EX AF,AF'` or `EXX` only, and the interrupt mode by a step that runs
`IM` and by reset only: no other instruction, no acceptance and no idle step changes them (rules R24, R32). -/
def Obligations.OnlyNamedInstructionsReachHiddenState : Prop :=
  ∀ s t : State, step s = .next t →
    (s.RunsOneOf [.ex_AF_AFshadow] ∨ t.aShadow = s.aShadow ∧ t.fShadow = s.fShadow) ∧
    (s.RunsOneOf [.exx] ∨ t.bShadow = s.bShadow ∧ t.cShadow = s.cShadow ∧ t.dShadow = s.dShadow ∧
      t.eShadow = s.eShadow ∧ t.hShadow = s.hShadow ∧ t.lShadow = s.lShadow) ∧
    (s.RunsOneOf [.im_0, .im_1, .im_2] ∨ s.nextPins.reset = true ∨ t.im = s.im)

/-- No instruction stops: each ends in a next state from every state. A step that does not end in one was refused, for
bytes with no meaning or for a supplied instruction that is no `RST`; no step faults (rules R118, R400, R407).
Refusing is decisions D7 and D34 (log entries 15 and 19). -/
def Obligations.NoInstructionStops : Prop :=
  (∀ (i : Instr) (s : State), ∃ t, exec i s = .next t) ∧
  ∀ s : State, (∃ t, step s = .next t) ∨
    (∃ error, step s = .refused (.unassignedEncoding error s.pc s.atFetch.fetch.1) ∧
      decode s.atFetch.fetch.1 = .error error) ∨
    (s.im = .mode0 ∧ s.nextPins.intLine = true ∧ step s = .refused (.modeZeroInstruction s.nextPins.intData))

end
end

