-- ==== Sys2Proof/Laws/Memory.lean ====
section
/-! SUPPORT. The laws of the memory list: what a read gives after a write, and that a write keeps the canonical form
(20_memory.md rules R61 to R63). -/

namespace Sys2Proof.Machine

@[simp] theorem Memory.read_nil (addr : Nat) : Memory.read [] addr = Memory.unlisted := rfl

/-- Taking the canonical form apart. -/
theorem Memory.wfFrom_cons {least k : Nat} {v : Byte} {rest : Memory} :
    Memory.wfFrom least ((k, v) :: rest) = true ↔
      least ≤ k ∧ k < 65536 ∧ v ≠ Memory.unlisted ∧ Memory.wfFrom (k + 1) rest = true := by
  simp [Memory.wfFrom, and_assoc]

/-- A canonical memory is canonical from any lower bound on. -/
theorem Memory.wfFrom_mono {m : Memory} {low high : Nat} (hle : low ≤ high) (h : Memory.wfFrom high m = true) :
    Memory.wfFrom low m = true := by
  cases m with
  | nil => rfl
  | cons cell rest =>
    obtain ⟨k, v⟩ := cell
    rw [Memory.wfFrom_cons] at h ⊢
    exact ⟨hle.trans h.1, h.2⟩

/-- Below the bound nothing is listed. -/
theorem Memory.read_below {m : Memory} {least addr : Nat} (h : Memory.wfFrom least m = true) (hlt : addr < least) :
    Memory.read m addr = Memory.unlisted := by
  induction m generalizing least with
  | nil => rfl
  | cons cell rest ih =>
    obtain ⟨k, v⟩ := cell
    rw [Memory.wfFrom_cons] at h
    rw [Memory.read, if_neg (by omega)]
    exact ih h.2.2.2 (by omega)

/-- A write leaves what every other address reads as. -/
theorem Memory.read_write_other {addr other : Nat} (hne : other ≠ addr) (v : Byte) (m : Memory) :
    Memory.read (Memory.write m addr v) other = Memory.read m other := by
  induction m with
  | nil =>
    unfold Memory.write
    split
    · rfl
    · simp [Memory.read, Ne.symm hne]
  | cons cell rest ih =>
    obtain ⟨k, w⟩ := cell
    unfold Memory.write
    split
    · rw [Memory.read, Memory.read, ih]
    · split
      · subst k
        split <;> simp [Memory.read, Ne.symm hne]
      · split
        · rfl
        · rw [Memory.read, if_neg (Ne.symm hne)]

/-- A write is what its address then reads as. -/
theorem Memory.read_write_same {m : Memory} {least : Nat} (h : Memory.wfFrom least m = true) (addr : Nat) (v : Byte) :
    Memory.read (Memory.write m addr v) addr = v := by
  induction m generalizing least with
  | nil =>
    unfold Memory.write
    split
    · simp [*]
    · simp [Memory.read]
  | cons cell rest ih =>
    obtain ⟨k, w⟩ := cell
    rw [Memory.wfFrom_cons] at h
    unfold Memory.write
    split
    · rw [Memory.read, if_neg (by omega)]
      exact ih h.2.2.2
    · split
      · split
        · subst k v
          exact Memory.read_below h.2.2.2 (by omega)
        · simp [Memory.read]
      · split
        · subst v
          rw [Memory.read, if_neg (by omega)]
          exact Memory.read_below h.2.2.2 (by omega)
        · simp [Memory.read]

/-- A write keeps the canonical form. -/
theorem Memory.wfFrom_write {m : Memory} {least addr : Nat} (h : Memory.wfFrom least m = true) (hge : least ≤ addr)
    (hlt : addr < 65536) (v : Byte) : Memory.wfFrom least (Memory.write m addr v) = true := by
  induction m generalizing least with
  | nil =>
    unfold Memory.write
    split
    · rfl
    · simp [Memory.wfFrom, *]
  | cons cell rest ih =>
    obtain ⟨k, w⟩ := cell
    have hc := Memory.wfFrom_cons.1 h
    unfold Memory.write
    split
    · exact Memory.wfFrom_cons.2 ⟨hc.1, hc.2.1, hc.2.2.1, ih hc.2.2.2 (by omega)⟩
    · split
      · subst k
        split
        · exact Memory.wfFrom_mono (by omega) hc.2.2.2
        · exact Memory.wfFrom_cons.2 ⟨hge, hlt, ‹_›, hc.2.2.2⟩
      · split
        · exact h
        · exact Memory.wfFrom_cons.2 ⟨hge, hlt, ‹_›, Memory.wfFrom_cons.2 ⟨by omega, hc.2⟩⟩

/-- A write at an address of the 64 KiB space keeps the canonical form. -/
theorem Memory.wf_write {m : Memory} (h : Memory.wf m = true) (addr : Word) (v : Byte) :
    Memory.wf (Memory.write m addr.toNat v) = true :=
  Memory.wfFrom_write h (Nat.zero_le _) addr.isLt v

/-- Memory that lists nothing, as after reset, is canonical. -/
theorem Memory.wf_nil : Memory.wf [] = true := rfl

end Sys2Proof.Machine
end

