-- ==== Sys2Proof/Laws/State.lean ====
section
/-! SUPPORT. What each update of the state leaves in each field, one lemma per field per update, so that no proof
unfolds a record update; and what reading each pair gives after the pair is written. -/

namespace Sys2Proof.Machine

/-! ### `advance` -/

@[simp] theorem State.advance_a (len : Nat) (s : State) : (s.advance len).a = s.a := rfl
@[simp] theorem State.advance_f (len : Nat) (s : State) : (s.advance len).f = s.f := rfl
@[simp] theorem State.advance_b (len : Nat) (s : State) : (s.advance len).b = s.b := rfl
@[simp] theorem State.advance_c (len : Nat) (s : State) : (s.advance len).c = s.c := rfl
@[simp] theorem State.advance_d (len : Nat) (s : State) : (s.advance len).d = s.d := rfl
@[simp] theorem State.advance_e (len : Nat) (s : State) : (s.advance len).e = s.e := rfl
@[simp] theorem State.advance_h (len : Nat) (s : State) : (s.advance len).h = s.h := rfl
@[simp] theorem State.advance_l (len : Nat) (s : State) : (s.advance len).l = s.l := rfl
@[simp] theorem State.advance_aShadow (len : Nat) (s : State) : (s.advance len).aShadow = s.aShadow := rfl
@[simp] theorem State.advance_fShadow (len : Nat) (s : State) : (s.advance len).fShadow = s.fShadow := rfl
@[simp] theorem State.advance_bShadow (len : Nat) (s : State) : (s.advance len).bShadow = s.bShadow := rfl
@[simp] theorem State.advance_cShadow (len : Nat) (s : State) : (s.advance len).cShadow = s.cShadow := rfl
@[simp] theorem State.advance_dShadow (len : Nat) (s : State) : (s.advance len).dShadow = s.dShadow := rfl
@[simp] theorem State.advance_eShadow (len : Nat) (s : State) : (s.advance len).eShadow = s.eShadow := rfl
@[simp] theorem State.advance_hShadow (len : Nat) (s : State) : (s.advance len).hShadow = s.hShadow := rfl
@[simp] theorem State.advance_lShadow (len : Nat) (s : State) : (s.advance len).lShadow = s.lShadow := rfl
@[simp] theorem State.advance_ix (len : Nat) (s : State) : (s.advance len).ix = s.ix := rfl
@[simp] theorem State.advance_iy (len : Nat) (s : State) : (s.advance len).iy = s.iy := rfl
@[simp] theorem State.advance_sp (len : Nat) (s : State) : (s.advance len).sp = s.sp := rfl
@[simp] theorem State.advance_i (len : Nat) (s : State) : (s.advance len).i = s.i := rfl
@[simp] theorem State.advance_r (len : Nat) (s : State) : (s.advance len).r = s.r := rfl
@[simp] theorem State.advance_im (len : Nat) (s : State) : (s.advance len).im = s.im := rfl
@[simp] theorem State.advance_iff1 (len : Nat) (s : State) : (s.advance len).iff1 = s.iff1 := rfl
@[simp] theorem State.advance_iff2 (len : Nat) (s : State) : (s.advance len).iff2 = s.iff2 := rfl
@[simp] theorem State.advance_halted (len : Nat) (s : State) : (s.advance len).halted = s.halted := rfl
@[simp] theorem State.advance_eiShadow (len : Nat) (s : State) : (s.advance len).eiShadow = s.eiShadow := rfl
@[simp] theorem State.advance_nmiPending (len : Nat) (s : State) : (s.advance len).nmiPending = s.nmiPending := rfl
@[simp] theorem State.advance_mem (len : Nat) (s : State) : (s.advance len).mem = s.mem := rfl
@[simp] theorem State.advance_memMap (len : Nat) (s : State) : (s.advance len).memMap = s.memMap := rfl
@[simp] theorem State.advance_pins (len : Nat) (s : State) : (s.advance len).pins = s.pins := rfl
@[simp] theorem State.advance_history (len : Nat) (s : State) : (s.advance len).history = s.history := rfl
@[simp] theorem State.advance_draws (len : Nat) (s : State) : (s.advance len).draws = s.draws := rfl
@[simp] theorem State.advance_tStates (len : Nat) (s : State) : (s.advance len).tStates = s.tStates := rfl
@[simp] theorem State.advance_pc (len : Nat) (s : State) : (s.advance len).pc = s.pc + BitVec.ofNat 16 len := rfl

/-! ### `goto` -/

@[simp] theorem State.goto_a (target : Word) (s : State) : (s.goto target).a = s.a := rfl
@[simp] theorem State.goto_f (target : Word) (s : State) : (s.goto target).f = s.f := rfl
@[simp] theorem State.goto_b (target : Word) (s : State) : (s.goto target).b = s.b := rfl
@[simp] theorem State.goto_c (target : Word) (s : State) : (s.goto target).c = s.c := rfl
@[simp] theorem State.goto_d (target : Word) (s : State) : (s.goto target).d = s.d := rfl
@[simp] theorem State.goto_e (target : Word) (s : State) : (s.goto target).e = s.e := rfl
@[simp] theorem State.goto_h (target : Word) (s : State) : (s.goto target).h = s.h := rfl
@[simp] theorem State.goto_l (target : Word) (s : State) : (s.goto target).l = s.l := rfl
@[simp] theorem State.goto_aShadow (target : Word) (s : State) : (s.goto target).aShadow = s.aShadow := rfl
@[simp] theorem State.goto_fShadow (target : Word) (s : State) : (s.goto target).fShadow = s.fShadow := rfl
@[simp] theorem State.goto_bShadow (target : Word) (s : State) : (s.goto target).bShadow = s.bShadow := rfl
@[simp] theorem State.goto_cShadow (target : Word) (s : State) : (s.goto target).cShadow = s.cShadow := rfl
@[simp] theorem State.goto_dShadow (target : Word) (s : State) : (s.goto target).dShadow = s.dShadow := rfl
@[simp] theorem State.goto_eShadow (target : Word) (s : State) : (s.goto target).eShadow = s.eShadow := rfl
@[simp] theorem State.goto_hShadow (target : Word) (s : State) : (s.goto target).hShadow = s.hShadow := rfl
@[simp] theorem State.goto_lShadow (target : Word) (s : State) : (s.goto target).lShadow = s.lShadow := rfl
@[simp] theorem State.goto_ix (target : Word) (s : State) : (s.goto target).ix = s.ix := rfl
@[simp] theorem State.goto_iy (target : Word) (s : State) : (s.goto target).iy = s.iy := rfl
@[simp] theorem State.goto_sp (target : Word) (s : State) : (s.goto target).sp = s.sp := rfl
@[simp] theorem State.goto_i (target : Word) (s : State) : (s.goto target).i = s.i := rfl
@[simp] theorem State.goto_r (target : Word) (s : State) : (s.goto target).r = s.r := rfl
@[simp] theorem State.goto_im (target : Word) (s : State) : (s.goto target).im = s.im := rfl
@[simp] theorem State.goto_iff1 (target : Word) (s : State) : (s.goto target).iff1 = s.iff1 := rfl
@[simp] theorem State.goto_iff2 (target : Word) (s : State) : (s.goto target).iff2 = s.iff2 := rfl
@[simp] theorem State.goto_halted (target : Word) (s : State) : (s.goto target).halted = s.halted := rfl
@[simp] theorem State.goto_eiShadow (target : Word) (s : State) : (s.goto target).eiShadow = s.eiShadow := rfl
@[simp] theorem State.goto_nmiPending (target : Word) (s : State) : (s.goto target).nmiPending = s.nmiPending := rfl
@[simp] theorem State.goto_mem (target : Word) (s : State) : (s.goto target).mem = s.mem := rfl
@[simp] theorem State.goto_memMap (target : Word) (s : State) : (s.goto target).memMap = s.memMap := rfl
@[simp] theorem State.goto_pins (target : Word) (s : State) : (s.goto target).pins = s.pins := rfl
@[simp] theorem State.goto_history (target : Word) (s : State) : (s.goto target).history = s.history := rfl
@[simp] theorem State.goto_draws (target : Word) (s : State) : (s.goto target).draws = s.draws := rfl
@[simp] theorem State.goto_tStates (target : Word) (s : State) : (s.goto target).tStates = s.tStates := rfl
@[simp] theorem State.goto_pc (target : Word) (s : State) : (s.goto target).pc = target := rfl

/-! ### `writeFlags` -/

@[simp] theorem State.writeFlags_a (upd : FlagUpdate) (s : State) : (s.writeFlags upd).a = s.a := rfl
@[simp] theorem State.writeFlags_b (upd : FlagUpdate) (s : State) : (s.writeFlags upd).b = s.b := rfl
@[simp] theorem State.writeFlags_c (upd : FlagUpdate) (s : State) : (s.writeFlags upd).c = s.c := rfl
@[simp] theorem State.writeFlags_d (upd : FlagUpdate) (s : State) : (s.writeFlags upd).d = s.d := rfl
@[simp] theorem State.writeFlags_e (upd : FlagUpdate) (s : State) : (s.writeFlags upd).e = s.e := rfl
@[simp] theorem State.writeFlags_h (upd : FlagUpdate) (s : State) : (s.writeFlags upd).h = s.h := rfl
@[simp] theorem State.writeFlags_l (upd : FlagUpdate) (s : State) : (s.writeFlags upd).l = s.l := rfl
@[simp] theorem State.writeFlags_aShadow (upd : FlagUpdate) (s : State) : (s.writeFlags upd).aShadow = s.aShadow := rfl
@[simp] theorem State.writeFlags_fShadow (upd : FlagUpdate) (s : State) : (s.writeFlags upd).fShadow = s.fShadow := rfl
@[simp] theorem State.writeFlags_bShadow (upd : FlagUpdate) (s : State) : (s.writeFlags upd).bShadow = s.bShadow := rfl
@[simp] theorem State.writeFlags_cShadow (upd : FlagUpdate) (s : State) : (s.writeFlags upd).cShadow = s.cShadow := rfl
@[simp] theorem State.writeFlags_dShadow (upd : FlagUpdate) (s : State) : (s.writeFlags upd).dShadow = s.dShadow := rfl
@[simp] theorem State.writeFlags_eShadow (upd : FlagUpdate) (s : State) : (s.writeFlags upd).eShadow = s.eShadow := rfl
@[simp] theorem State.writeFlags_hShadow (upd : FlagUpdate) (s : State) : (s.writeFlags upd).hShadow = s.hShadow := rfl
@[simp] theorem State.writeFlags_lShadow (upd : FlagUpdate) (s : State) : (s.writeFlags upd).lShadow = s.lShadow := rfl
@[simp] theorem State.writeFlags_ix (upd : FlagUpdate) (s : State) : (s.writeFlags upd).ix = s.ix := rfl
@[simp] theorem State.writeFlags_iy (upd : FlagUpdate) (s : State) : (s.writeFlags upd).iy = s.iy := rfl
@[simp] theorem State.writeFlags_sp (upd : FlagUpdate) (s : State) : (s.writeFlags upd).sp = s.sp := rfl
@[simp] theorem State.writeFlags_pc (upd : FlagUpdate) (s : State) : (s.writeFlags upd).pc = s.pc := rfl
@[simp] theorem State.writeFlags_i (upd : FlagUpdate) (s : State) : (s.writeFlags upd).i = s.i := rfl
@[simp] theorem State.writeFlags_r (upd : FlagUpdate) (s : State) : (s.writeFlags upd).r = s.r := rfl
@[simp] theorem State.writeFlags_im (upd : FlagUpdate) (s : State) : (s.writeFlags upd).im = s.im := rfl
@[simp] theorem State.writeFlags_iff1 (upd : FlagUpdate) (s : State) : (s.writeFlags upd).iff1 = s.iff1 := rfl
@[simp] theorem State.writeFlags_iff2 (upd : FlagUpdate) (s : State) : (s.writeFlags upd).iff2 = s.iff2 := rfl
@[simp] theorem State.writeFlags_halted (upd : FlagUpdate) (s : State) : (s.writeFlags upd).halted = s.halted := rfl
@[simp] theorem State.writeFlags_eiShadow (upd : FlagUpdate) (s : State) : (s.writeFlags upd).eiShadow = s.eiShadow := rfl
@[simp] theorem State.writeFlags_nmiPending (upd : FlagUpdate) (s : State) : (s.writeFlags upd).nmiPending = s.nmiPending := rfl
@[simp] theorem State.writeFlags_mem (upd : FlagUpdate) (s : State) : (s.writeFlags upd).mem = s.mem := rfl
@[simp] theorem State.writeFlags_memMap (upd : FlagUpdate) (s : State) : (s.writeFlags upd).memMap = s.memMap := rfl
@[simp] theorem State.writeFlags_pins (upd : FlagUpdate) (s : State) : (s.writeFlags upd).pins = s.pins := rfl
@[simp] theorem State.writeFlags_history (upd : FlagUpdate) (s : State) : (s.writeFlags upd).history = s.history := rfl
@[simp] theorem State.writeFlags_tStates (upd : FlagUpdate) (s : State) : (s.writeFlags upd).tStates = s.tStates := rfl
@[simp] theorem State.writeFlags_f (upd : FlagUpdate) (s : State) : (s.writeFlags upd).f = { upd s.f (freeFlagsAt s.draws) with f5 := (freeFlagsAt s.draws).f5, f3 := (freeFlagsAt s.draws).f3 } := rfl
@[simp] theorem State.writeFlags_draws (upd : FlagUpdate) (s : State) : (s.writeFlags upd).draws = s.draws + 1 := rfl

/-! ### `logEvent` -/

@[simp] theorem State.logEvent_a (ev : BusEvent) (s : State) : (s.logEvent ev).a = s.a := rfl
@[simp] theorem State.logEvent_f (ev : BusEvent) (s : State) : (s.logEvent ev).f = s.f := rfl
@[simp] theorem State.logEvent_b (ev : BusEvent) (s : State) : (s.logEvent ev).b = s.b := rfl
@[simp] theorem State.logEvent_c (ev : BusEvent) (s : State) : (s.logEvent ev).c = s.c := rfl
@[simp] theorem State.logEvent_d (ev : BusEvent) (s : State) : (s.logEvent ev).d = s.d := rfl
@[simp] theorem State.logEvent_e (ev : BusEvent) (s : State) : (s.logEvent ev).e = s.e := rfl
@[simp] theorem State.logEvent_h (ev : BusEvent) (s : State) : (s.logEvent ev).h = s.h := rfl
@[simp] theorem State.logEvent_l (ev : BusEvent) (s : State) : (s.logEvent ev).l = s.l := rfl
@[simp] theorem State.logEvent_aShadow (ev : BusEvent) (s : State) : (s.logEvent ev).aShadow = s.aShadow := rfl
@[simp] theorem State.logEvent_fShadow (ev : BusEvent) (s : State) : (s.logEvent ev).fShadow = s.fShadow := rfl
@[simp] theorem State.logEvent_bShadow (ev : BusEvent) (s : State) : (s.logEvent ev).bShadow = s.bShadow := rfl
@[simp] theorem State.logEvent_cShadow (ev : BusEvent) (s : State) : (s.logEvent ev).cShadow = s.cShadow := rfl
@[simp] theorem State.logEvent_dShadow (ev : BusEvent) (s : State) : (s.logEvent ev).dShadow = s.dShadow := rfl
@[simp] theorem State.logEvent_eShadow (ev : BusEvent) (s : State) : (s.logEvent ev).eShadow = s.eShadow := rfl
@[simp] theorem State.logEvent_hShadow (ev : BusEvent) (s : State) : (s.logEvent ev).hShadow = s.hShadow := rfl
@[simp] theorem State.logEvent_lShadow (ev : BusEvent) (s : State) : (s.logEvent ev).lShadow = s.lShadow := rfl
@[simp] theorem State.logEvent_ix (ev : BusEvent) (s : State) : (s.logEvent ev).ix = s.ix := rfl
@[simp] theorem State.logEvent_iy (ev : BusEvent) (s : State) : (s.logEvent ev).iy = s.iy := rfl
@[simp] theorem State.logEvent_sp (ev : BusEvent) (s : State) : (s.logEvent ev).sp = s.sp := rfl
@[simp] theorem State.logEvent_pc (ev : BusEvent) (s : State) : (s.logEvent ev).pc = s.pc := rfl
@[simp] theorem State.logEvent_i (ev : BusEvent) (s : State) : (s.logEvent ev).i = s.i := rfl
@[simp] theorem State.logEvent_r (ev : BusEvent) (s : State) : (s.logEvent ev).r = s.r := rfl
@[simp] theorem State.logEvent_im (ev : BusEvent) (s : State) : (s.logEvent ev).im = s.im := rfl
@[simp] theorem State.logEvent_iff1 (ev : BusEvent) (s : State) : (s.logEvent ev).iff1 = s.iff1 := rfl
@[simp] theorem State.logEvent_iff2 (ev : BusEvent) (s : State) : (s.logEvent ev).iff2 = s.iff2 := rfl
@[simp] theorem State.logEvent_halted (ev : BusEvent) (s : State) : (s.logEvent ev).halted = s.halted := rfl
@[simp] theorem State.logEvent_eiShadow (ev : BusEvent) (s : State) : (s.logEvent ev).eiShadow = s.eiShadow := rfl
@[simp] theorem State.logEvent_nmiPending (ev : BusEvent) (s : State) : (s.logEvent ev).nmiPending = s.nmiPending := rfl
@[simp] theorem State.logEvent_mem (ev : BusEvent) (s : State) : (s.logEvent ev).mem = s.mem := rfl
@[simp] theorem State.logEvent_memMap (ev : BusEvent) (s : State) : (s.logEvent ev).memMap = s.memMap := rfl
@[simp] theorem State.logEvent_pins (ev : BusEvent) (s : State) : (s.logEvent ev).pins = s.pins := rfl
@[simp] theorem State.logEvent_draws (ev : BusEvent) (s : State) : (s.logEvent ev).draws = s.draws := rfl
@[simp] theorem State.logEvent_tStates (ev : BusEvent) (s : State) : (s.logEvent ev).tStates = s.tStates := rfl
@[simp] theorem State.logEvent_history (ev : BusEvent) (s : State) : (s.logEvent ev).history = ev :: s.history := rfl

/-! ### `countFetches` -/

@[simp] theorem State.countFetches_a (n : Nat) (s : State) : (s.countFetches n).a = s.a := rfl
@[simp] theorem State.countFetches_f (n : Nat) (s : State) : (s.countFetches n).f = s.f := rfl
@[simp] theorem State.countFetches_b (n : Nat) (s : State) : (s.countFetches n).b = s.b := rfl
@[simp] theorem State.countFetches_c (n : Nat) (s : State) : (s.countFetches n).c = s.c := rfl
@[simp] theorem State.countFetches_d (n : Nat) (s : State) : (s.countFetches n).d = s.d := rfl
@[simp] theorem State.countFetches_e (n : Nat) (s : State) : (s.countFetches n).e = s.e := rfl
@[simp] theorem State.countFetches_h (n : Nat) (s : State) : (s.countFetches n).h = s.h := rfl
@[simp] theorem State.countFetches_l (n : Nat) (s : State) : (s.countFetches n).l = s.l := rfl
@[simp] theorem State.countFetches_aShadow (n : Nat) (s : State) : (s.countFetches n).aShadow = s.aShadow := rfl
@[simp] theorem State.countFetches_fShadow (n : Nat) (s : State) : (s.countFetches n).fShadow = s.fShadow := rfl
@[simp] theorem State.countFetches_bShadow (n : Nat) (s : State) : (s.countFetches n).bShadow = s.bShadow := rfl
@[simp] theorem State.countFetches_cShadow (n : Nat) (s : State) : (s.countFetches n).cShadow = s.cShadow := rfl
@[simp] theorem State.countFetches_dShadow (n : Nat) (s : State) : (s.countFetches n).dShadow = s.dShadow := rfl
@[simp] theorem State.countFetches_eShadow (n : Nat) (s : State) : (s.countFetches n).eShadow = s.eShadow := rfl
@[simp] theorem State.countFetches_hShadow (n : Nat) (s : State) : (s.countFetches n).hShadow = s.hShadow := rfl
@[simp] theorem State.countFetches_lShadow (n : Nat) (s : State) : (s.countFetches n).lShadow = s.lShadow := rfl
@[simp] theorem State.countFetches_ix (n : Nat) (s : State) : (s.countFetches n).ix = s.ix := rfl
@[simp] theorem State.countFetches_iy (n : Nat) (s : State) : (s.countFetches n).iy = s.iy := rfl
@[simp] theorem State.countFetches_sp (n : Nat) (s : State) : (s.countFetches n).sp = s.sp := rfl
@[simp] theorem State.countFetches_pc (n : Nat) (s : State) : (s.countFetches n).pc = s.pc := rfl
@[simp] theorem State.countFetches_i (n : Nat) (s : State) : (s.countFetches n).i = s.i := rfl
@[simp] theorem State.countFetches_im (n : Nat) (s : State) : (s.countFetches n).im = s.im := rfl
@[simp] theorem State.countFetches_iff1 (n : Nat) (s : State) : (s.countFetches n).iff1 = s.iff1 := rfl
@[simp] theorem State.countFetches_iff2 (n : Nat) (s : State) : (s.countFetches n).iff2 = s.iff2 := rfl
@[simp] theorem State.countFetches_halted (n : Nat) (s : State) : (s.countFetches n).halted = s.halted := rfl
@[simp] theorem State.countFetches_eiShadow (n : Nat) (s : State) : (s.countFetches n).eiShadow = s.eiShadow := rfl
@[simp] theorem State.countFetches_nmiPending (n : Nat) (s : State) : (s.countFetches n).nmiPending = s.nmiPending := rfl
@[simp] theorem State.countFetches_mem (n : Nat) (s : State) : (s.countFetches n).mem = s.mem := rfl
@[simp] theorem State.countFetches_memMap (n : Nat) (s : State) : (s.countFetches n).memMap = s.memMap := rfl
@[simp] theorem State.countFetches_pins (n : Nat) (s : State) : (s.countFetches n).pins = s.pins := rfl
@[simp] theorem State.countFetches_history (n : Nat) (s : State) : (s.countFetches n).history = s.history := rfl
@[simp] theorem State.countFetches_draws (n : Nat) (s : State) : (s.countFetches n).draws = s.draws := rfl
@[simp] theorem State.countFetches_tStates (n : Nat) (s : State) : (s.countFetches n).tStates = s.tStates := rfl
@[simp] theorem State.countFetches_r (n : Nat) (s : State) : (s.countFetches n).r = refreshAfter s.r n := rfl

/-! ### `setBC` -/

@[simp] theorem State.setBC_a (w : Word) (s : State) : (s.setBC w).a = s.a := rfl
@[simp] theorem State.setBC_f (w : Word) (s : State) : (s.setBC w).f = s.f := rfl
@[simp] theorem State.setBC_d (w : Word) (s : State) : (s.setBC w).d = s.d := rfl
@[simp] theorem State.setBC_e (w : Word) (s : State) : (s.setBC w).e = s.e := rfl
@[simp] theorem State.setBC_h (w : Word) (s : State) : (s.setBC w).h = s.h := rfl
@[simp] theorem State.setBC_l (w : Word) (s : State) : (s.setBC w).l = s.l := rfl
@[simp] theorem State.setBC_aShadow (w : Word) (s : State) : (s.setBC w).aShadow = s.aShadow := rfl
@[simp] theorem State.setBC_fShadow (w : Word) (s : State) : (s.setBC w).fShadow = s.fShadow := rfl
@[simp] theorem State.setBC_bShadow (w : Word) (s : State) : (s.setBC w).bShadow = s.bShadow := rfl
@[simp] theorem State.setBC_cShadow (w : Word) (s : State) : (s.setBC w).cShadow = s.cShadow := rfl
@[simp] theorem State.setBC_dShadow (w : Word) (s : State) : (s.setBC w).dShadow = s.dShadow := rfl
@[simp] theorem State.setBC_eShadow (w : Word) (s : State) : (s.setBC w).eShadow = s.eShadow := rfl
@[simp] theorem State.setBC_hShadow (w : Word) (s : State) : (s.setBC w).hShadow = s.hShadow := rfl
@[simp] theorem State.setBC_lShadow (w : Word) (s : State) : (s.setBC w).lShadow = s.lShadow := rfl
@[simp] theorem State.setBC_ix (w : Word) (s : State) : (s.setBC w).ix = s.ix := rfl
@[simp] theorem State.setBC_iy (w : Word) (s : State) : (s.setBC w).iy = s.iy := rfl
@[simp] theorem State.setBC_sp (w : Word) (s : State) : (s.setBC w).sp = s.sp := rfl
@[simp] theorem State.setBC_pc (w : Word) (s : State) : (s.setBC w).pc = s.pc := rfl
@[simp] theorem State.setBC_i (w : Word) (s : State) : (s.setBC w).i = s.i := rfl
@[simp] theorem State.setBC_r (w : Word) (s : State) : (s.setBC w).r = s.r := rfl
@[simp] theorem State.setBC_im (w : Word) (s : State) : (s.setBC w).im = s.im := rfl
@[simp] theorem State.setBC_iff1 (w : Word) (s : State) : (s.setBC w).iff1 = s.iff1 := rfl
@[simp] theorem State.setBC_iff2 (w : Word) (s : State) : (s.setBC w).iff2 = s.iff2 := rfl
@[simp] theorem State.setBC_halted (w : Word) (s : State) : (s.setBC w).halted = s.halted := rfl
@[simp] theorem State.setBC_eiShadow (w : Word) (s : State) : (s.setBC w).eiShadow = s.eiShadow := rfl
@[simp] theorem State.setBC_nmiPending (w : Word) (s : State) : (s.setBC w).nmiPending = s.nmiPending := rfl
@[simp] theorem State.setBC_mem (w : Word) (s : State) : (s.setBC w).mem = s.mem := rfl
@[simp] theorem State.setBC_memMap (w : Word) (s : State) : (s.setBC w).memMap = s.memMap := rfl
@[simp] theorem State.setBC_pins (w : Word) (s : State) : (s.setBC w).pins = s.pins := rfl
@[simp] theorem State.setBC_history (w : Word) (s : State) : (s.setBC w).history = s.history := rfl
@[simp] theorem State.setBC_draws (w : Word) (s : State) : (s.setBC w).draws = s.draws := rfl
@[simp] theorem State.setBC_tStates (w : Word) (s : State) : (s.setBC w).tStates = s.tStates := rfl
@[simp] theorem State.setBC_b (w : Word) (s : State) : (s.setBC w).b = hiByte w := rfl
@[simp] theorem State.setBC_c (w : Word) (s : State) : (s.setBC w).c = loByte w := rfl

/-! ### `setDE` -/

@[simp] theorem State.setDE_a (w : Word) (s : State) : (s.setDE w).a = s.a := rfl
@[simp] theorem State.setDE_f (w : Word) (s : State) : (s.setDE w).f = s.f := rfl
@[simp] theorem State.setDE_b (w : Word) (s : State) : (s.setDE w).b = s.b := rfl
@[simp] theorem State.setDE_c (w : Word) (s : State) : (s.setDE w).c = s.c := rfl
@[simp] theorem State.setDE_h (w : Word) (s : State) : (s.setDE w).h = s.h := rfl
@[simp] theorem State.setDE_l (w : Word) (s : State) : (s.setDE w).l = s.l := rfl
@[simp] theorem State.setDE_aShadow (w : Word) (s : State) : (s.setDE w).aShadow = s.aShadow := rfl
@[simp] theorem State.setDE_fShadow (w : Word) (s : State) : (s.setDE w).fShadow = s.fShadow := rfl
@[simp] theorem State.setDE_bShadow (w : Word) (s : State) : (s.setDE w).bShadow = s.bShadow := rfl
@[simp] theorem State.setDE_cShadow (w : Word) (s : State) : (s.setDE w).cShadow = s.cShadow := rfl
@[simp] theorem State.setDE_dShadow (w : Word) (s : State) : (s.setDE w).dShadow = s.dShadow := rfl
@[simp] theorem State.setDE_eShadow (w : Word) (s : State) : (s.setDE w).eShadow = s.eShadow := rfl
@[simp] theorem State.setDE_hShadow (w : Word) (s : State) : (s.setDE w).hShadow = s.hShadow := rfl
@[simp] theorem State.setDE_lShadow (w : Word) (s : State) : (s.setDE w).lShadow = s.lShadow := rfl
@[simp] theorem State.setDE_ix (w : Word) (s : State) : (s.setDE w).ix = s.ix := rfl
@[simp] theorem State.setDE_iy (w : Word) (s : State) : (s.setDE w).iy = s.iy := rfl
@[simp] theorem State.setDE_sp (w : Word) (s : State) : (s.setDE w).sp = s.sp := rfl
@[simp] theorem State.setDE_pc (w : Word) (s : State) : (s.setDE w).pc = s.pc := rfl
@[simp] theorem State.setDE_i (w : Word) (s : State) : (s.setDE w).i = s.i := rfl
@[simp] theorem State.setDE_r (w : Word) (s : State) : (s.setDE w).r = s.r := rfl
@[simp] theorem State.setDE_im (w : Word) (s : State) : (s.setDE w).im = s.im := rfl
@[simp] theorem State.setDE_iff1 (w : Word) (s : State) : (s.setDE w).iff1 = s.iff1 := rfl
@[simp] theorem State.setDE_iff2 (w : Word) (s : State) : (s.setDE w).iff2 = s.iff2 := rfl
@[simp] theorem State.setDE_halted (w : Word) (s : State) : (s.setDE w).halted = s.halted := rfl
@[simp] theorem State.setDE_eiShadow (w : Word) (s : State) : (s.setDE w).eiShadow = s.eiShadow := rfl
@[simp] theorem State.setDE_nmiPending (w : Word) (s : State) : (s.setDE w).nmiPending = s.nmiPending := rfl
@[simp] theorem State.setDE_mem (w : Word) (s : State) : (s.setDE w).mem = s.mem := rfl
@[simp] theorem State.setDE_memMap (w : Word) (s : State) : (s.setDE w).memMap = s.memMap := rfl
@[simp] theorem State.setDE_pins (w : Word) (s : State) : (s.setDE w).pins = s.pins := rfl
@[simp] theorem State.setDE_history (w : Word) (s : State) : (s.setDE w).history = s.history := rfl
@[simp] theorem State.setDE_draws (w : Word) (s : State) : (s.setDE w).draws = s.draws := rfl
@[simp] theorem State.setDE_tStates (w : Word) (s : State) : (s.setDE w).tStates = s.tStates := rfl
@[simp] theorem State.setDE_d (w : Word) (s : State) : (s.setDE w).d = hiByte w := rfl
@[simp] theorem State.setDE_e (w : Word) (s : State) : (s.setDE w).e = loByte w := rfl

/-! ### `setHL` -/

@[simp] theorem State.setHL_a (w : Word) (s : State) : (s.setHL w).a = s.a := rfl
@[simp] theorem State.setHL_f (w : Word) (s : State) : (s.setHL w).f = s.f := rfl
@[simp] theorem State.setHL_b (w : Word) (s : State) : (s.setHL w).b = s.b := rfl
@[simp] theorem State.setHL_c (w : Word) (s : State) : (s.setHL w).c = s.c := rfl
@[simp] theorem State.setHL_d (w : Word) (s : State) : (s.setHL w).d = s.d := rfl
@[simp] theorem State.setHL_e (w : Word) (s : State) : (s.setHL w).e = s.e := rfl
@[simp] theorem State.setHL_aShadow (w : Word) (s : State) : (s.setHL w).aShadow = s.aShadow := rfl
@[simp] theorem State.setHL_fShadow (w : Word) (s : State) : (s.setHL w).fShadow = s.fShadow := rfl
@[simp] theorem State.setHL_bShadow (w : Word) (s : State) : (s.setHL w).bShadow = s.bShadow := rfl
@[simp] theorem State.setHL_cShadow (w : Word) (s : State) : (s.setHL w).cShadow = s.cShadow := rfl
@[simp] theorem State.setHL_dShadow (w : Word) (s : State) : (s.setHL w).dShadow = s.dShadow := rfl
@[simp] theorem State.setHL_eShadow (w : Word) (s : State) : (s.setHL w).eShadow = s.eShadow := rfl
@[simp] theorem State.setHL_hShadow (w : Word) (s : State) : (s.setHL w).hShadow = s.hShadow := rfl
@[simp] theorem State.setHL_lShadow (w : Word) (s : State) : (s.setHL w).lShadow = s.lShadow := rfl
@[simp] theorem State.setHL_ix (w : Word) (s : State) : (s.setHL w).ix = s.ix := rfl
@[simp] theorem State.setHL_iy (w : Word) (s : State) : (s.setHL w).iy = s.iy := rfl
@[simp] theorem State.setHL_sp (w : Word) (s : State) : (s.setHL w).sp = s.sp := rfl
@[simp] theorem State.setHL_pc (w : Word) (s : State) : (s.setHL w).pc = s.pc := rfl
@[simp] theorem State.setHL_i (w : Word) (s : State) : (s.setHL w).i = s.i := rfl
@[simp] theorem State.setHL_r (w : Word) (s : State) : (s.setHL w).r = s.r := rfl
@[simp] theorem State.setHL_im (w : Word) (s : State) : (s.setHL w).im = s.im := rfl
@[simp] theorem State.setHL_iff1 (w : Word) (s : State) : (s.setHL w).iff1 = s.iff1 := rfl
@[simp] theorem State.setHL_iff2 (w : Word) (s : State) : (s.setHL w).iff2 = s.iff2 := rfl
@[simp] theorem State.setHL_halted (w : Word) (s : State) : (s.setHL w).halted = s.halted := rfl
@[simp] theorem State.setHL_eiShadow (w : Word) (s : State) : (s.setHL w).eiShadow = s.eiShadow := rfl
@[simp] theorem State.setHL_nmiPending (w : Word) (s : State) : (s.setHL w).nmiPending = s.nmiPending := rfl
@[simp] theorem State.setHL_mem (w : Word) (s : State) : (s.setHL w).mem = s.mem := rfl
@[simp] theorem State.setHL_memMap (w : Word) (s : State) : (s.setHL w).memMap = s.memMap := rfl
@[simp] theorem State.setHL_pins (w : Word) (s : State) : (s.setHL w).pins = s.pins := rfl
@[simp] theorem State.setHL_history (w : Word) (s : State) : (s.setHL w).history = s.history := rfl
@[simp] theorem State.setHL_draws (w : Word) (s : State) : (s.setHL w).draws = s.draws := rfl
@[simp] theorem State.setHL_tStates (w : Word) (s : State) : (s.setHL w).tStates = s.tStates := rfl
@[simp] theorem State.setHL_h (w : Word) (s : State) : (s.setHL w).h = hiByte w := rfl
@[simp] theorem State.setHL_l (w : Word) (s : State) : (s.setHL w).l = loByte w := rfl

/-! ### `setAF` -/

@[simp] theorem State.setAF_b (w : Word) (s : State) : (s.setAF w).b = s.b := rfl
@[simp] theorem State.setAF_c (w : Word) (s : State) : (s.setAF w).c = s.c := rfl
@[simp] theorem State.setAF_d (w : Word) (s : State) : (s.setAF w).d = s.d := rfl
@[simp] theorem State.setAF_e (w : Word) (s : State) : (s.setAF w).e = s.e := rfl
@[simp] theorem State.setAF_h (w : Word) (s : State) : (s.setAF w).h = s.h := rfl
@[simp] theorem State.setAF_l (w : Word) (s : State) : (s.setAF w).l = s.l := rfl
@[simp] theorem State.setAF_aShadow (w : Word) (s : State) : (s.setAF w).aShadow = s.aShadow := rfl
@[simp] theorem State.setAF_fShadow (w : Word) (s : State) : (s.setAF w).fShadow = s.fShadow := rfl
@[simp] theorem State.setAF_bShadow (w : Word) (s : State) : (s.setAF w).bShadow = s.bShadow := rfl
@[simp] theorem State.setAF_cShadow (w : Word) (s : State) : (s.setAF w).cShadow = s.cShadow := rfl
@[simp] theorem State.setAF_dShadow (w : Word) (s : State) : (s.setAF w).dShadow = s.dShadow := rfl
@[simp] theorem State.setAF_eShadow (w : Word) (s : State) : (s.setAF w).eShadow = s.eShadow := rfl
@[simp] theorem State.setAF_hShadow (w : Word) (s : State) : (s.setAF w).hShadow = s.hShadow := rfl
@[simp] theorem State.setAF_lShadow (w : Word) (s : State) : (s.setAF w).lShadow = s.lShadow := rfl
@[simp] theorem State.setAF_ix (w : Word) (s : State) : (s.setAF w).ix = s.ix := rfl
@[simp] theorem State.setAF_iy (w : Word) (s : State) : (s.setAF w).iy = s.iy := rfl
@[simp] theorem State.setAF_sp (w : Word) (s : State) : (s.setAF w).sp = s.sp := rfl
@[simp] theorem State.setAF_pc (w : Word) (s : State) : (s.setAF w).pc = s.pc := rfl
@[simp] theorem State.setAF_i (w : Word) (s : State) : (s.setAF w).i = s.i := rfl
@[simp] theorem State.setAF_r (w : Word) (s : State) : (s.setAF w).r = s.r := rfl
@[simp] theorem State.setAF_im (w : Word) (s : State) : (s.setAF w).im = s.im := rfl
@[simp] theorem State.setAF_iff1 (w : Word) (s : State) : (s.setAF w).iff1 = s.iff1 := rfl
@[simp] theorem State.setAF_iff2 (w : Word) (s : State) : (s.setAF w).iff2 = s.iff2 := rfl
@[simp] theorem State.setAF_halted (w : Word) (s : State) : (s.setAF w).halted = s.halted := rfl
@[simp] theorem State.setAF_eiShadow (w : Word) (s : State) : (s.setAF w).eiShadow = s.eiShadow := rfl
@[simp] theorem State.setAF_nmiPending (w : Word) (s : State) : (s.setAF w).nmiPending = s.nmiPending := rfl
@[simp] theorem State.setAF_mem (w : Word) (s : State) : (s.setAF w).mem = s.mem := rfl
@[simp] theorem State.setAF_memMap (w : Word) (s : State) : (s.setAF w).memMap = s.memMap := rfl
@[simp] theorem State.setAF_pins (w : Word) (s : State) : (s.setAF w).pins = s.pins := rfl
@[simp] theorem State.setAF_history (w : Word) (s : State) : (s.setAF w).history = s.history := rfl
@[simp] theorem State.setAF_draws (w : Word) (s : State) : (s.setAF w).draws = s.draws := rfl
@[simp] theorem State.setAF_tStates (w : Word) (s : State) : (s.setAF w).tStates = s.tStates := rfl
@[simp] theorem State.setAF_a (w : Word) (s : State) : (s.setAF w).a = hiByte w := rfl
@[simp] theorem State.setAF_f (w : Word) (s : State) : (s.setAF w).f = Flags.ofByte (loByte w) := rfl

/-! ### `setReg8` -/

@[simp] theorem State.setReg8_f (r : Reg8) (v : Byte) (s : State) : (s.setReg8 r v).f = s.f := by cases r <;> rfl
@[simp] theorem State.setReg8_aShadow (r : Reg8) (v : Byte) (s : State) : (s.setReg8 r v).aShadow = s.aShadow := by cases r <;> rfl
@[simp] theorem State.setReg8_fShadow (r : Reg8) (v : Byte) (s : State) : (s.setReg8 r v).fShadow = s.fShadow := by cases r <;> rfl
@[simp] theorem State.setReg8_bShadow (r : Reg8) (v : Byte) (s : State) : (s.setReg8 r v).bShadow = s.bShadow := by cases r <;> rfl
@[simp] theorem State.setReg8_cShadow (r : Reg8) (v : Byte) (s : State) : (s.setReg8 r v).cShadow = s.cShadow := by cases r <;> rfl
@[simp] theorem State.setReg8_dShadow (r : Reg8) (v : Byte) (s : State) : (s.setReg8 r v).dShadow = s.dShadow := by cases r <;> rfl
@[simp] theorem State.setReg8_eShadow (r : Reg8) (v : Byte) (s : State) : (s.setReg8 r v).eShadow = s.eShadow := by cases r <;> rfl
@[simp] theorem State.setReg8_hShadow (r : Reg8) (v : Byte) (s : State) : (s.setReg8 r v).hShadow = s.hShadow := by cases r <;> rfl
@[simp] theorem State.setReg8_lShadow (r : Reg8) (v : Byte) (s : State) : (s.setReg8 r v).lShadow = s.lShadow := by cases r <;> rfl
@[simp] theorem State.setReg8_sp (r : Reg8) (v : Byte) (s : State) : (s.setReg8 r v).sp = s.sp := by cases r <;> rfl
@[simp] theorem State.setReg8_pc (r : Reg8) (v : Byte) (s : State) : (s.setReg8 r v).pc = s.pc := by cases r <;> rfl
@[simp] theorem State.setReg8_i (r : Reg8) (v : Byte) (s : State) : (s.setReg8 r v).i = s.i := by cases r <;> rfl
@[simp] theorem State.setReg8_r (r : Reg8) (v : Byte) (s : State) : (s.setReg8 r v).r = s.r := by cases r <;> rfl
@[simp] theorem State.setReg8_im (r : Reg8) (v : Byte) (s : State) : (s.setReg8 r v).im = s.im := by cases r <;> rfl
@[simp] theorem State.setReg8_iff1 (r : Reg8) (v : Byte) (s : State) : (s.setReg8 r v).iff1 = s.iff1 := by cases r <;> rfl
@[simp] theorem State.setReg8_iff2 (r : Reg8) (v : Byte) (s : State) : (s.setReg8 r v).iff2 = s.iff2 := by cases r <;> rfl
@[simp] theorem State.setReg8_halted (r : Reg8) (v : Byte) (s : State) : (s.setReg8 r v).halted = s.halted := by cases r <;> rfl
@[simp] theorem State.setReg8_eiShadow (r : Reg8) (v : Byte) (s : State) : (s.setReg8 r v).eiShadow = s.eiShadow := by cases r <;> rfl
@[simp] theorem State.setReg8_nmiPending (r : Reg8) (v : Byte) (s : State) : (s.setReg8 r v).nmiPending = s.nmiPending := by cases r <;> rfl
@[simp] theorem State.setReg8_mem (r : Reg8) (v : Byte) (s : State) : (s.setReg8 r v).mem = s.mem := by cases r <;> rfl
@[simp] theorem State.setReg8_memMap (r : Reg8) (v : Byte) (s : State) : (s.setReg8 r v).memMap = s.memMap := by cases r <;> rfl
@[simp] theorem State.setReg8_pins (r : Reg8) (v : Byte) (s : State) : (s.setReg8 r v).pins = s.pins := by cases r <;> rfl
@[simp] theorem State.setReg8_history (r : Reg8) (v : Byte) (s : State) : (s.setReg8 r v).history = s.history := by cases r <;> rfl
@[simp] theorem State.setReg8_draws (r : Reg8) (v : Byte) (s : State) : (s.setReg8 r v).draws = s.draws := by cases r <;> rfl
@[simp] theorem State.setReg8_tStates (r : Reg8) (v : Byte) (s : State) : (s.setReg8 r v).tStates = s.tStates := by cases r <;> rfl

/-! ### `setReg16` -/

@[simp] theorem State.setReg16_aShadow (r : Reg16) (w : Word) (s : State) : (s.setReg16 r w).aShadow = s.aShadow := by cases r <;> rfl
@[simp] theorem State.setReg16_fShadow (r : Reg16) (w : Word) (s : State) : (s.setReg16 r w).fShadow = s.fShadow := by cases r <;> rfl
@[simp] theorem State.setReg16_bShadow (r : Reg16) (w : Word) (s : State) : (s.setReg16 r w).bShadow = s.bShadow := by cases r <;> rfl
@[simp] theorem State.setReg16_cShadow (r : Reg16) (w : Word) (s : State) : (s.setReg16 r w).cShadow = s.cShadow := by cases r <;> rfl
@[simp] theorem State.setReg16_dShadow (r : Reg16) (w : Word) (s : State) : (s.setReg16 r w).dShadow = s.dShadow := by cases r <;> rfl
@[simp] theorem State.setReg16_eShadow (r : Reg16) (w : Word) (s : State) : (s.setReg16 r w).eShadow = s.eShadow := by cases r <;> rfl
@[simp] theorem State.setReg16_hShadow (r : Reg16) (w : Word) (s : State) : (s.setReg16 r w).hShadow = s.hShadow := by cases r <;> rfl
@[simp] theorem State.setReg16_lShadow (r : Reg16) (w : Word) (s : State) : (s.setReg16 r w).lShadow = s.lShadow := by cases r <;> rfl
@[simp] theorem State.setReg16_pc (r : Reg16) (w : Word) (s : State) : (s.setReg16 r w).pc = s.pc := by cases r <;> rfl
@[simp] theorem State.setReg16_i (r : Reg16) (w : Word) (s : State) : (s.setReg16 r w).i = s.i := by cases r <;> rfl
@[simp] theorem State.setReg16_r (r : Reg16) (w : Word) (s : State) : (s.setReg16 r w).r = s.r := by cases r <;> rfl
@[simp] theorem State.setReg16_im (r : Reg16) (w : Word) (s : State) : (s.setReg16 r w).im = s.im := by cases r <;> rfl
@[simp] theorem State.setReg16_iff1 (r : Reg16) (w : Word) (s : State) : (s.setReg16 r w).iff1 = s.iff1 := by cases r <;> rfl
@[simp] theorem State.setReg16_iff2 (r : Reg16) (w : Word) (s : State) : (s.setReg16 r w).iff2 = s.iff2 := by cases r <;> rfl
@[simp] theorem State.setReg16_halted (r : Reg16) (w : Word) (s : State) : (s.setReg16 r w).halted = s.halted := by cases r <;> rfl
@[simp] theorem State.setReg16_eiShadow (r : Reg16) (w : Word) (s : State) : (s.setReg16 r w).eiShadow = s.eiShadow := by cases r <;> rfl
@[simp] theorem State.setReg16_nmiPending (r : Reg16) (w : Word) (s : State) : (s.setReg16 r w).nmiPending = s.nmiPending := by cases r <;> rfl
@[simp] theorem State.setReg16_mem (r : Reg16) (w : Word) (s : State) : (s.setReg16 r w).mem = s.mem := by cases r <;> rfl
@[simp] theorem State.setReg16_memMap (r : Reg16) (w : Word) (s : State) : (s.setReg16 r w).memMap = s.memMap := by cases r <;> rfl
@[simp] theorem State.setReg16_pins (r : Reg16) (w : Word) (s : State) : (s.setReg16 r w).pins = s.pins := by cases r <;> rfl
@[simp] theorem State.setReg16_history (r : Reg16) (w : Word) (s : State) : (s.setReg16 r w).history = s.history := by cases r <;> rfl
@[simp] theorem State.setReg16_draws (r : Reg16) (w : Word) (s : State) : (s.setReg16 r w).draws = s.draws := by cases r <;> rfl
@[simp] theorem State.setReg16_tStates (r : Reg16) (w : Word) (s : State) : (s.setReg16 r w).tStates = s.tStates := by cases r <;> rfl

/-! ### `ioWrite` -/

@[simp] theorem State.ioWrite_a (port : Word) (v : Byte) (s : State) : (s.ioWrite port v).a = s.a := rfl
@[simp] theorem State.ioWrite_f (port : Word) (v : Byte) (s : State) : (s.ioWrite port v).f = s.f := rfl
@[simp] theorem State.ioWrite_b (port : Word) (v : Byte) (s : State) : (s.ioWrite port v).b = s.b := rfl
@[simp] theorem State.ioWrite_c (port : Word) (v : Byte) (s : State) : (s.ioWrite port v).c = s.c := rfl
@[simp] theorem State.ioWrite_d (port : Word) (v : Byte) (s : State) : (s.ioWrite port v).d = s.d := rfl
@[simp] theorem State.ioWrite_e (port : Word) (v : Byte) (s : State) : (s.ioWrite port v).e = s.e := rfl
@[simp] theorem State.ioWrite_h (port : Word) (v : Byte) (s : State) : (s.ioWrite port v).h = s.h := rfl
@[simp] theorem State.ioWrite_l (port : Word) (v : Byte) (s : State) : (s.ioWrite port v).l = s.l := rfl
@[simp] theorem State.ioWrite_aShadow (port : Word) (v : Byte) (s : State) : (s.ioWrite port v).aShadow = s.aShadow := rfl
@[simp] theorem State.ioWrite_fShadow (port : Word) (v : Byte) (s : State) : (s.ioWrite port v).fShadow = s.fShadow := rfl
@[simp] theorem State.ioWrite_bShadow (port : Word) (v : Byte) (s : State) : (s.ioWrite port v).bShadow = s.bShadow := rfl
@[simp] theorem State.ioWrite_cShadow (port : Word) (v : Byte) (s : State) : (s.ioWrite port v).cShadow = s.cShadow := rfl
@[simp] theorem State.ioWrite_dShadow (port : Word) (v : Byte) (s : State) : (s.ioWrite port v).dShadow = s.dShadow := rfl
@[simp] theorem State.ioWrite_eShadow (port : Word) (v : Byte) (s : State) : (s.ioWrite port v).eShadow = s.eShadow := rfl
@[simp] theorem State.ioWrite_hShadow (port : Word) (v : Byte) (s : State) : (s.ioWrite port v).hShadow = s.hShadow := rfl
@[simp] theorem State.ioWrite_lShadow (port : Word) (v : Byte) (s : State) : (s.ioWrite port v).lShadow = s.lShadow := rfl
@[simp] theorem State.ioWrite_ix (port : Word) (v : Byte) (s : State) : (s.ioWrite port v).ix = s.ix := rfl
@[simp] theorem State.ioWrite_iy (port : Word) (v : Byte) (s : State) : (s.ioWrite port v).iy = s.iy := rfl
@[simp] theorem State.ioWrite_sp (port : Word) (v : Byte) (s : State) : (s.ioWrite port v).sp = s.sp := rfl
@[simp] theorem State.ioWrite_pc (port : Word) (v : Byte) (s : State) : (s.ioWrite port v).pc = s.pc := rfl
@[simp] theorem State.ioWrite_i (port : Word) (v : Byte) (s : State) : (s.ioWrite port v).i = s.i := rfl
@[simp] theorem State.ioWrite_r (port : Word) (v : Byte) (s : State) : (s.ioWrite port v).r = s.r := rfl
@[simp] theorem State.ioWrite_im (port : Word) (v : Byte) (s : State) : (s.ioWrite port v).im = s.im := rfl
@[simp] theorem State.ioWrite_iff1 (port : Word) (v : Byte) (s : State) : (s.ioWrite port v).iff1 = s.iff1 := rfl
@[simp] theorem State.ioWrite_iff2 (port : Word) (v : Byte) (s : State) : (s.ioWrite port v).iff2 = s.iff2 := rfl
@[simp] theorem State.ioWrite_halted (port : Word) (v : Byte) (s : State) : (s.ioWrite port v).halted = s.halted := rfl
@[simp] theorem State.ioWrite_eiShadow (port : Word) (v : Byte) (s : State) : (s.ioWrite port v).eiShadow = s.eiShadow := rfl
@[simp] theorem State.ioWrite_nmiPending (port : Word) (v : Byte) (s : State) : (s.ioWrite port v).nmiPending = s.nmiPending := rfl
@[simp] theorem State.ioWrite_mem (port : Word) (v : Byte) (s : State) : (s.ioWrite port v).mem = s.mem := rfl
@[simp] theorem State.ioWrite_memMap (port : Word) (v : Byte) (s : State) : (s.ioWrite port v).memMap = s.memMap := rfl
@[simp] theorem State.ioWrite_pins (port : Word) (v : Byte) (s : State) : (s.ioWrite port v).pins = s.pins := rfl
@[simp] theorem State.ioWrite_draws (port : Word) (v : Byte) (s : State) : (s.ioWrite port v).draws = s.draws := rfl
@[simp] theorem State.ioWrite_tStates (port : Word) (v : Byte) (s : State) : (s.ioWrite port v).tStates = s.tStates := rfl
@[simp] theorem State.ioWrite_history (port : Word) (v : Byte) (s : State) : (s.ioWrite port v).history = .ioWrite port v :: s.history := rfl

/-! ### `ioRead` -/

@[simp] theorem State.ioRead_a (port : Word) (s : State) : ((s.ioRead port).2).a = s.a := rfl
@[simp] theorem State.ioRead_f (port : Word) (s : State) : ((s.ioRead port).2).f = s.f := rfl
@[simp] theorem State.ioRead_b (port : Word) (s : State) : ((s.ioRead port).2).b = s.b := rfl
@[simp] theorem State.ioRead_c (port : Word) (s : State) : ((s.ioRead port).2).c = s.c := rfl
@[simp] theorem State.ioRead_d (port : Word) (s : State) : ((s.ioRead port).2).d = s.d := rfl
@[simp] theorem State.ioRead_e (port : Word) (s : State) : ((s.ioRead port).2).e = s.e := rfl
@[simp] theorem State.ioRead_h (port : Word) (s : State) : ((s.ioRead port).2).h = s.h := rfl
@[simp] theorem State.ioRead_l (port : Word) (s : State) : ((s.ioRead port).2).l = s.l := rfl
@[simp] theorem State.ioRead_aShadow (port : Word) (s : State) : ((s.ioRead port).2).aShadow = s.aShadow := rfl
@[simp] theorem State.ioRead_fShadow (port : Word) (s : State) : ((s.ioRead port).2).fShadow = s.fShadow := rfl
@[simp] theorem State.ioRead_bShadow (port : Word) (s : State) : ((s.ioRead port).2).bShadow = s.bShadow := rfl
@[simp] theorem State.ioRead_cShadow (port : Word) (s : State) : ((s.ioRead port).2).cShadow = s.cShadow := rfl
@[simp] theorem State.ioRead_dShadow (port : Word) (s : State) : ((s.ioRead port).2).dShadow = s.dShadow := rfl
@[simp] theorem State.ioRead_eShadow (port : Word) (s : State) : ((s.ioRead port).2).eShadow = s.eShadow := rfl
@[simp] theorem State.ioRead_hShadow (port : Word) (s : State) : ((s.ioRead port).2).hShadow = s.hShadow := rfl
@[simp] theorem State.ioRead_lShadow (port : Word) (s : State) : ((s.ioRead port).2).lShadow = s.lShadow := rfl
@[simp] theorem State.ioRead_ix (port : Word) (s : State) : ((s.ioRead port).2).ix = s.ix := rfl
@[simp] theorem State.ioRead_iy (port : Word) (s : State) : ((s.ioRead port).2).iy = s.iy := rfl
@[simp] theorem State.ioRead_sp (port : Word) (s : State) : ((s.ioRead port).2).sp = s.sp := rfl
@[simp] theorem State.ioRead_pc (port : Word) (s : State) : ((s.ioRead port).2).pc = s.pc := rfl
@[simp] theorem State.ioRead_i (port : Word) (s : State) : ((s.ioRead port).2).i = s.i := rfl
@[simp] theorem State.ioRead_r (port : Word) (s : State) : ((s.ioRead port).2).r = s.r := rfl
@[simp] theorem State.ioRead_im (port : Word) (s : State) : ((s.ioRead port).2).im = s.im := rfl
@[simp] theorem State.ioRead_iff1 (port : Word) (s : State) : ((s.ioRead port).2).iff1 = s.iff1 := rfl
@[simp] theorem State.ioRead_iff2 (port : Word) (s : State) : ((s.ioRead port).2).iff2 = s.iff2 := rfl
@[simp] theorem State.ioRead_halted (port : Word) (s : State) : ((s.ioRead port).2).halted = s.halted := rfl
@[simp] theorem State.ioRead_eiShadow (port : Word) (s : State) : ((s.ioRead port).2).eiShadow = s.eiShadow := rfl
@[simp] theorem State.ioRead_nmiPending (port : Word) (s : State) : ((s.ioRead port).2).nmiPending = s.nmiPending := rfl
@[simp] theorem State.ioRead_mem (port : Word) (s : State) : ((s.ioRead port).2).mem = s.mem := rfl
@[simp] theorem State.ioRead_memMap (port : Word) (s : State) : ((s.ioRead port).2).memMap = s.memMap := rfl
@[simp] theorem State.ioRead_pins (port : Word) (s : State) : ((s.ioRead port).2).pins = s.pins := rfl
@[simp] theorem State.ioRead_draws (port : Word) (s : State) : ((s.ioRead port).2).draws = s.draws := rfl
@[simp] theorem State.ioRead_tStates (port : Word) (s : State) : ((s.ioRead port).2).tStates = s.tStates := rfl
@[simp] theorem State.ioRead_history (port : Word) (s : State) : ((s.ioRead port).2).history = .ioRead port (Config.ioByte port s.history) :: s.history := rfl

/-! ### `elapse` -/

@[simp] theorem State.elapse_a (n : Nat) (s : State) : (s.elapse n).a = s.a := rfl
@[simp] theorem State.elapse_f (n : Nat) (s : State) : (s.elapse n).f = s.f := rfl
@[simp] theorem State.elapse_b (n : Nat) (s : State) : (s.elapse n).b = s.b := rfl
@[simp] theorem State.elapse_c (n : Nat) (s : State) : (s.elapse n).c = s.c := rfl
@[simp] theorem State.elapse_d (n : Nat) (s : State) : (s.elapse n).d = s.d := rfl
@[simp] theorem State.elapse_e (n : Nat) (s : State) : (s.elapse n).e = s.e := rfl
@[simp] theorem State.elapse_h (n : Nat) (s : State) : (s.elapse n).h = s.h := rfl
@[simp] theorem State.elapse_l (n : Nat) (s : State) : (s.elapse n).l = s.l := rfl
@[simp] theorem State.elapse_aShadow (n : Nat) (s : State) : (s.elapse n).aShadow = s.aShadow := rfl
@[simp] theorem State.elapse_fShadow (n : Nat) (s : State) : (s.elapse n).fShadow = s.fShadow := rfl
@[simp] theorem State.elapse_bShadow (n : Nat) (s : State) : (s.elapse n).bShadow = s.bShadow := rfl
@[simp] theorem State.elapse_cShadow (n : Nat) (s : State) : (s.elapse n).cShadow = s.cShadow := rfl
@[simp] theorem State.elapse_dShadow (n : Nat) (s : State) : (s.elapse n).dShadow = s.dShadow := rfl
@[simp] theorem State.elapse_eShadow (n : Nat) (s : State) : (s.elapse n).eShadow = s.eShadow := rfl
@[simp] theorem State.elapse_hShadow (n : Nat) (s : State) : (s.elapse n).hShadow = s.hShadow := rfl
@[simp] theorem State.elapse_lShadow (n : Nat) (s : State) : (s.elapse n).lShadow = s.lShadow := rfl
@[simp] theorem State.elapse_ix (n : Nat) (s : State) : (s.elapse n).ix = s.ix := rfl
@[simp] theorem State.elapse_iy (n : Nat) (s : State) : (s.elapse n).iy = s.iy := rfl
@[simp] theorem State.elapse_sp (n : Nat) (s : State) : (s.elapse n).sp = s.sp := rfl
@[simp] theorem State.elapse_pc (n : Nat) (s : State) : (s.elapse n).pc = s.pc := rfl
@[simp] theorem State.elapse_i (n : Nat) (s : State) : (s.elapse n).i = s.i := rfl
@[simp] theorem State.elapse_r (n : Nat) (s : State) : (s.elapse n).r = s.r := rfl
@[simp] theorem State.elapse_im (n : Nat) (s : State) : (s.elapse n).im = s.im := rfl
@[simp] theorem State.elapse_iff1 (n : Nat) (s : State) : (s.elapse n).iff1 = s.iff1 := rfl
@[simp] theorem State.elapse_iff2 (n : Nat) (s : State) : (s.elapse n).iff2 = s.iff2 := rfl
@[simp] theorem State.elapse_halted (n : Nat) (s : State) : (s.elapse n).halted = s.halted := rfl
@[simp] theorem State.elapse_eiShadow (n : Nat) (s : State) : (s.elapse n).eiShadow = s.eiShadow := rfl
@[simp] theorem State.elapse_nmiPending (n : Nat) (s : State) : (s.elapse n).nmiPending = s.nmiPending := rfl
@[simp] theorem State.elapse_mem (n : Nat) (s : State) : (s.elapse n).mem = s.mem := rfl
@[simp] theorem State.elapse_memMap (n : Nat) (s : State) : (s.elapse n).memMap = s.memMap := rfl
@[simp] theorem State.elapse_pins (n : Nat) (s : State) : (s.elapse n).pins = s.pins := rfl
@[simp] theorem State.elapse_history (n : Nat) (s : State) : (s.elapse n).history = s.history := rfl
@[simp] theorem State.elapse_draws (n : Nat) (s : State) : (s.elapse n).draws = s.draws := rfl
@[simp] theorem State.elapse_tStates (n : Nat) (s : State) : (s.elapse n).tStates = s.tStates + n := rfl

/-! ### `beginInterrupt` -/

@[simp] theorem State.beginInterrupt_a (s : State) : (s.beginInterrupt).a = s.a := rfl
@[simp] theorem State.beginInterrupt_f (s : State) : (s.beginInterrupt).f = s.f := rfl
@[simp] theorem State.beginInterrupt_b (s : State) : (s.beginInterrupt).b = s.b := rfl
@[simp] theorem State.beginInterrupt_c (s : State) : (s.beginInterrupt).c = s.c := rfl
@[simp] theorem State.beginInterrupt_d (s : State) : (s.beginInterrupt).d = s.d := rfl
@[simp] theorem State.beginInterrupt_e (s : State) : (s.beginInterrupt).e = s.e := rfl
@[simp] theorem State.beginInterrupt_h (s : State) : (s.beginInterrupt).h = s.h := rfl
@[simp] theorem State.beginInterrupt_l (s : State) : (s.beginInterrupt).l = s.l := rfl
@[simp] theorem State.beginInterrupt_aShadow (s : State) : (s.beginInterrupt).aShadow = s.aShadow := rfl
@[simp] theorem State.beginInterrupt_fShadow (s : State) : (s.beginInterrupt).fShadow = s.fShadow := rfl
@[simp] theorem State.beginInterrupt_bShadow (s : State) : (s.beginInterrupt).bShadow = s.bShadow := rfl
@[simp] theorem State.beginInterrupt_cShadow (s : State) : (s.beginInterrupt).cShadow = s.cShadow := rfl
@[simp] theorem State.beginInterrupt_dShadow (s : State) : (s.beginInterrupt).dShadow = s.dShadow := rfl
@[simp] theorem State.beginInterrupt_eShadow (s : State) : (s.beginInterrupt).eShadow = s.eShadow := rfl
@[simp] theorem State.beginInterrupt_hShadow (s : State) : (s.beginInterrupt).hShadow = s.hShadow := rfl
@[simp] theorem State.beginInterrupt_lShadow (s : State) : (s.beginInterrupt).lShadow = s.lShadow := rfl
@[simp] theorem State.beginInterrupt_ix (s : State) : (s.beginInterrupt).ix = s.ix := rfl
@[simp] theorem State.beginInterrupt_iy (s : State) : (s.beginInterrupt).iy = s.iy := rfl
@[simp] theorem State.beginInterrupt_sp (s : State) : (s.beginInterrupt).sp = s.sp := rfl
@[simp] theorem State.beginInterrupt_pc (s : State) : (s.beginInterrupt).pc = s.pc := rfl
@[simp] theorem State.beginInterrupt_i (s : State) : (s.beginInterrupt).i = s.i := rfl
@[simp] theorem State.beginInterrupt_im (s : State) : (s.beginInterrupt).im = s.im := rfl
@[simp] theorem State.beginInterrupt_iff2 (s : State) : (s.beginInterrupt).iff2 = s.iff2 := rfl
@[simp] theorem State.beginInterrupt_eiShadow (s : State) : (s.beginInterrupt).eiShadow = s.eiShadow := rfl
@[simp] theorem State.beginInterrupt_nmiPending (s : State) : (s.beginInterrupt).nmiPending = s.nmiPending := rfl
@[simp] theorem State.beginInterrupt_mem (s : State) : (s.beginInterrupt).mem = s.mem := rfl
@[simp] theorem State.beginInterrupt_memMap (s : State) : (s.beginInterrupt).memMap = s.memMap := rfl
@[simp] theorem State.beginInterrupt_pins (s : State) : (s.beginInterrupt).pins = s.pins := rfl
@[simp] theorem State.beginInterrupt_history (s : State) : (s.beginInterrupt).history = s.history := rfl
@[simp] theorem State.beginInterrupt_draws (s : State) : (s.beginInterrupt).draws = s.draws := rfl
@[simp] theorem State.beginInterrupt_tStates (s : State) : (s.beginInterrupt).tStates = s.tStates := rfl
@[simp] theorem State.beginInterrupt_halted (s : State) : (s.beginInterrupt).halted = false := rfl
@[simp] theorem State.beginInterrupt_iff1 (s : State) : (s.beginInterrupt).iff1 = false := rfl
@[simp] theorem State.beginInterrupt_r (s : State) : (s.beginInterrupt).r = refreshAfter s.r 1 := rfl

/-! ### `samplePins` -/

@[simp] theorem State.samplePins_a (s : State) : (s.samplePins).a = s.a := rfl
@[simp] theorem State.samplePins_f (s : State) : (s.samplePins).f = s.f := rfl
@[simp] theorem State.samplePins_b (s : State) : (s.samplePins).b = s.b := rfl
@[simp] theorem State.samplePins_c (s : State) : (s.samplePins).c = s.c := rfl
@[simp] theorem State.samplePins_d (s : State) : (s.samplePins).d = s.d := rfl
@[simp] theorem State.samplePins_e (s : State) : (s.samplePins).e = s.e := rfl
@[simp] theorem State.samplePins_h (s : State) : (s.samplePins).h = s.h := rfl
@[simp] theorem State.samplePins_l (s : State) : (s.samplePins).l = s.l := rfl
@[simp] theorem State.samplePins_aShadow (s : State) : (s.samplePins).aShadow = s.aShadow := rfl
@[simp] theorem State.samplePins_fShadow (s : State) : (s.samplePins).fShadow = s.fShadow := rfl
@[simp] theorem State.samplePins_bShadow (s : State) : (s.samplePins).bShadow = s.bShadow := rfl
@[simp] theorem State.samplePins_cShadow (s : State) : (s.samplePins).cShadow = s.cShadow := rfl
@[simp] theorem State.samplePins_dShadow (s : State) : (s.samplePins).dShadow = s.dShadow := rfl
@[simp] theorem State.samplePins_eShadow (s : State) : (s.samplePins).eShadow = s.eShadow := rfl
@[simp] theorem State.samplePins_hShadow (s : State) : (s.samplePins).hShadow = s.hShadow := rfl
@[simp] theorem State.samplePins_lShadow (s : State) : (s.samplePins).lShadow = s.lShadow := rfl
@[simp] theorem State.samplePins_ix (s : State) : (s.samplePins).ix = s.ix := rfl
@[simp] theorem State.samplePins_iy (s : State) : (s.samplePins).iy = s.iy := rfl
@[simp] theorem State.samplePins_sp (s : State) : (s.samplePins).sp = s.sp := rfl
@[simp] theorem State.samplePins_pc (s : State) : (s.samplePins).pc = s.pc := rfl
@[simp] theorem State.samplePins_i (s : State) : (s.samplePins).i = s.i := rfl
@[simp] theorem State.samplePins_r (s : State) : (s.samplePins).r = s.r := rfl
@[simp] theorem State.samplePins_im (s : State) : (s.samplePins).im = s.im := rfl
@[simp] theorem State.samplePins_iff1 (s : State) : (s.samplePins).iff1 = s.iff1 := rfl
@[simp] theorem State.samplePins_iff2 (s : State) : (s.samplePins).iff2 = s.iff2 := rfl
@[simp] theorem State.samplePins_halted (s : State) : (s.samplePins).halted = s.halted := rfl
@[simp] theorem State.samplePins_eiShadow (s : State) : (s.samplePins).eiShadow = s.eiShadow := rfl
@[simp] theorem State.samplePins_mem (s : State) : (s.samplePins).mem = s.mem := rfl
@[simp] theorem State.samplePins_memMap (s : State) : (s.samplePins).memMap = s.memMap := rfl
@[simp] theorem State.samplePins_history (s : State) : (s.samplePins).history = s.history := rfl
@[simp] theorem State.samplePins_draws (s : State) : (s.samplePins).draws = s.draws := rfl
@[simp] theorem State.samplePins_tStates (s : State) : (s.samplePins).tStates = s.tStates := rfl
@[simp] theorem State.samplePins_pins (s : State) : (s.samplePins).pins = s.pins.tail := rfl
@[simp] theorem State.samplePins_nmiPending (s : State) : (s.samplePins).nmiPending = (s.nmiPending || s.nextPins.nmiEdge) := rfl

/-! ### `writeByte` -/

@[simp] theorem State.writeByte_a (addr : Word) (v : Byte) (s : State) : (s.writeByte addr v).a = s.a := by
  unfold State.writeByte; split <;> rfl
@[simp] theorem State.writeByte_f (addr : Word) (v : Byte) (s : State) : (s.writeByte addr v).f = s.f := by
  unfold State.writeByte; split <;> rfl
@[simp] theorem State.writeByte_b (addr : Word) (v : Byte) (s : State) : (s.writeByte addr v).b = s.b := by
  unfold State.writeByte; split <;> rfl
@[simp] theorem State.writeByte_c (addr : Word) (v : Byte) (s : State) : (s.writeByte addr v).c = s.c := by
  unfold State.writeByte; split <;> rfl
@[simp] theorem State.writeByte_d (addr : Word) (v : Byte) (s : State) : (s.writeByte addr v).d = s.d := by
  unfold State.writeByte; split <;> rfl
@[simp] theorem State.writeByte_e (addr : Word) (v : Byte) (s : State) : (s.writeByte addr v).e = s.e := by
  unfold State.writeByte; split <;> rfl
@[simp] theorem State.writeByte_h (addr : Word) (v : Byte) (s : State) : (s.writeByte addr v).h = s.h := by
  unfold State.writeByte; split <;> rfl
@[simp] theorem State.writeByte_l (addr : Word) (v : Byte) (s : State) : (s.writeByte addr v).l = s.l := by
  unfold State.writeByte; split <;> rfl
@[simp] theorem State.writeByte_aShadow (addr : Word) (v : Byte) (s : State) : (s.writeByte addr v).aShadow = s.aShadow := by
  unfold State.writeByte; split <;> rfl
@[simp] theorem State.writeByte_fShadow (addr : Word) (v : Byte) (s : State) : (s.writeByte addr v).fShadow = s.fShadow := by
  unfold State.writeByte; split <;> rfl
@[simp] theorem State.writeByte_bShadow (addr : Word) (v : Byte) (s : State) : (s.writeByte addr v).bShadow = s.bShadow := by
  unfold State.writeByte; split <;> rfl
@[simp] theorem State.writeByte_cShadow (addr : Word) (v : Byte) (s : State) : (s.writeByte addr v).cShadow = s.cShadow := by
  unfold State.writeByte; split <;> rfl
@[simp] theorem State.writeByte_dShadow (addr : Word) (v : Byte) (s : State) : (s.writeByte addr v).dShadow = s.dShadow := by
  unfold State.writeByte; split <;> rfl
@[simp] theorem State.writeByte_eShadow (addr : Word) (v : Byte) (s : State) : (s.writeByte addr v).eShadow = s.eShadow := by
  unfold State.writeByte; split <;> rfl
@[simp] theorem State.writeByte_hShadow (addr : Word) (v : Byte) (s : State) : (s.writeByte addr v).hShadow = s.hShadow := by
  unfold State.writeByte; split <;> rfl
@[simp] theorem State.writeByte_lShadow (addr : Word) (v : Byte) (s : State) : (s.writeByte addr v).lShadow = s.lShadow := by
  unfold State.writeByte; split <;> rfl
@[simp] theorem State.writeByte_ix (addr : Word) (v : Byte) (s : State) : (s.writeByte addr v).ix = s.ix := by
  unfold State.writeByte; split <;> rfl
@[simp] theorem State.writeByte_iy (addr : Word) (v : Byte) (s : State) : (s.writeByte addr v).iy = s.iy := by
  unfold State.writeByte; split <;> rfl
@[simp] theorem State.writeByte_sp (addr : Word) (v : Byte) (s : State) : (s.writeByte addr v).sp = s.sp := by
  unfold State.writeByte; split <;> rfl
@[simp] theorem State.writeByte_pc (addr : Word) (v : Byte) (s : State) : (s.writeByte addr v).pc = s.pc := by
  unfold State.writeByte; split <;> rfl
@[simp] theorem State.writeByte_i (addr : Word) (v : Byte) (s : State) : (s.writeByte addr v).i = s.i := by
  unfold State.writeByte; split <;> rfl
@[simp] theorem State.writeByte_r (addr : Word) (v : Byte) (s : State) : (s.writeByte addr v).r = s.r := by
  unfold State.writeByte; split <;> rfl
@[simp] theorem State.writeByte_im (addr : Word) (v : Byte) (s : State) : (s.writeByte addr v).im = s.im := by
  unfold State.writeByte; split <;> rfl
@[simp] theorem State.writeByte_iff1 (addr : Word) (v : Byte) (s : State) : (s.writeByte addr v).iff1 = s.iff1 := by
  unfold State.writeByte; split <;> rfl
@[simp] theorem State.writeByte_iff2 (addr : Word) (v : Byte) (s : State) : (s.writeByte addr v).iff2 = s.iff2 := by
  unfold State.writeByte; split <;> rfl
@[simp] theorem State.writeByte_halted (addr : Word) (v : Byte) (s : State) : (s.writeByte addr v).halted = s.halted := by
  unfold State.writeByte; split <;> rfl
@[simp] theorem State.writeByte_eiShadow (addr : Word) (v : Byte) (s : State) : (s.writeByte addr v).eiShadow = s.eiShadow := by
  unfold State.writeByte; split <;> rfl
@[simp] theorem State.writeByte_nmiPending (addr : Word) (v : Byte) (s : State) : (s.writeByte addr v).nmiPending = s.nmiPending := by
  unfold State.writeByte; split <;> rfl
@[simp] theorem State.writeByte_memMap (addr : Word) (v : Byte) (s : State) : (s.writeByte addr v).memMap = s.memMap := by
  unfold State.writeByte; split <;> rfl
@[simp] theorem State.writeByte_pins (addr : Word) (v : Byte) (s : State) : (s.writeByte addr v).pins = s.pins := by
  unfold State.writeByte; split <;> rfl
@[simp] theorem State.writeByte_draws (addr : Word) (v : Byte) (s : State) : (s.writeByte addr v).draws = s.draws := by
  unfold State.writeByte; split <;> rfl
@[simp] theorem State.writeByte_tStates (addr : Word) (v : Byte) (s : State) : (s.writeByte addr v).tStates = s.tStates := by
  unfold State.writeByte; split <;> rfl

/-! ### `readByte` -/

@[simp] theorem State.readByte_a (addr : Word) (s : State) : ((s.readByte addr).2).a = s.a := by
  unfold State.readByte; split <;> rfl
@[simp] theorem State.readByte_f (addr : Word) (s : State) : ((s.readByte addr).2).f = s.f := by
  unfold State.readByte; split <;> rfl
@[simp] theorem State.readByte_b (addr : Word) (s : State) : ((s.readByte addr).2).b = s.b := by
  unfold State.readByte; split <;> rfl
@[simp] theorem State.readByte_c (addr : Word) (s : State) : ((s.readByte addr).2).c = s.c := by
  unfold State.readByte; split <;> rfl
@[simp] theorem State.readByte_d (addr : Word) (s : State) : ((s.readByte addr).2).d = s.d := by
  unfold State.readByte; split <;> rfl
@[simp] theorem State.readByte_e (addr : Word) (s : State) : ((s.readByte addr).2).e = s.e := by
  unfold State.readByte; split <;> rfl
@[simp] theorem State.readByte_h (addr : Word) (s : State) : ((s.readByte addr).2).h = s.h := by
  unfold State.readByte; split <;> rfl
@[simp] theorem State.readByte_l (addr : Word) (s : State) : ((s.readByte addr).2).l = s.l := by
  unfold State.readByte; split <;> rfl
@[simp] theorem State.readByte_aShadow (addr : Word) (s : State) : ((s.readByte addr).2).aShadow = s.aShadow := by
  unfold State.readByte; split <;> rfl
@[simp] theorem State.readByte_fShadow (addr : Word) (s : State) : ((s.readByte addr).2).fShadow = s.fShadow := by
  unfold State.readByte; split <;> rfl
@[simp] theorem State.readByte_bShadow (addr : Word) (s : State) : ((s.readByte addr).2).bShadow = s.bShadow := by
  unfold State.readByte; split <;> rfl
@[simp] theorem State.readByte_cShadow (addr : Word) (s : State) : ((s.readByte addr).2).cShadow = s.cShadow := by
  unfold State.readByte; split <;> rfl
@[simp] theorem State.readByte_dShadow (addr : Word) (s : State) : ((s.readByte addr).2).dShadow = s.dShadow := by
  unfold State.readByte; split <;> rfl
@[simp] theorem State.readByte_eShadow (addr : Word) (s : State) : ((s.readByte addr).2).eShadow = s.eShadow := by
  unfold State.readByte; split <;> rfl
@[simp] theorem State.readByte_hShadow (addr : Word) (s : State) : ((s.readByte addr).2).hShadow = s.hShadow := by
  unfold State.readByte; split <;> rfl
@[simp] theorem State.readByte_lShadow (addr : Word) (s : State) : ((s.readByte addr).2).lShadow = s.lShadow := by
  unfold State.readByte; split <;> rfl
@[simp] theorem State.readByte_ix (addr : Word) (s : State) : ((s.readByte addr).2).ix = s.ix := by
  unfold State.readByte; split <;> rfl
@[simp] theorem State.readByte_iy (addr : Word) (s : State) : ((s.readByte addr).2).iy = s.iy := by
  unfold State.readByte; split <;> rfl
@[simp] theorem State.readByte_sp (addr : Word) (s : State) : ((s.readByte addr).2).sp = s.sp := by
  unfold State.readByte; split <;> rfl
@[simp] theorem State.readByte_pc (addr : Word) (s : State) : ((s.readByte addr).2).pc = s.pc := by
  unfold State.readByte; split <;> rfl
@[simp] theorem State.readByte_i (addr : Word) (s : State) : ((s.readByte addr).2).i = s.i := by
  unfold State.readByte; split <;> rfl
@[simp] theorem State.readByte_r (addr : Word) (s : State) : ((s.readByte addr).2).r = s.r := by
  unfold State.readByte; split <;> rfl
@[simp] theorem State.readByte_im (addr : Word) (s : State) : ((s.readByte addr).2).im = s.im := by
  unfold State.readByte; split <;> rfl
@[simp] theorem State.readByte_iff1 (addr : Word) (s : State) : ((s.readByte addr).2).iff1 = s.iff1 := by
  unfold State.readByte; split <;> rfl
@[simp] theorem State.readByte_iff2 (addr : Word) (s : State) : ((s.readByte addr).2).iff2 = s.iff2 := by
  unfold State.readByte; split <;> rfl
@[simp] theorem State.readByte_halted (addr : Word) (s : State) : ((s.readByte addr).2).halted = s.halted := by
  unfold State.readByte; split <;> rfl
@[simp] theorem State.readByte_eiShadow (addr : Word) (s : State) : ((s.readByte addr).2).eiShadow = s.eiShadow := by
  unfold State.readByte; split <;> rfl
@[simp] theorem State.readByte_nmiPending (addr : Word) (s : State) : ((s.readByte addr).2).nmiPending = s.nmiPending := by
  unfold State.readByte; split <;> rfl
@[simp] theorem State.readByte_mem (addr : Word) (s : State) : ((s.readByte addr).2).mem = s.mem := by
  unfold State.readByte; split <;> rfl
@[simp] theorem State.readByte_memMap (addr : Word) (s : State) : ((s.readByte addr).2).memMap = s.memMap := by
  unfold State.readByte; split <;> rfl
@[simp] theorem State.readByte_pins (addr : Word) (s : State) : ((s.readByte addr).2).pins = s.pins := by
  unfold State.readByte; split <;> rfl
@[simp] theorem State.readByte_draws (addr : Word) (s : State) : ((s.readByte addr).2).draws = s.draws := by
  unfold State.readByte; split <;> rfl
@[simp] theorem State.readByte_tStates (addr : Word) (s : State) : ((s.readByte addr).2).tStates = s.tStates := by
  unfold State.readByte; split <;> rfl

/-! ### `writeWord` -/

@[simp] theorem State.writeWord_a (addr w : Word) (s : State) : (s.writeWord addr w).a = s.a := by
  simp [State.writeWord]
@[simp] theorem State.writeWord_f (addr w : Word) (s : State) : (s.writeWord addr w).f = s.f := by
  simp [State.writeWord]
@[simp] theorem State.writeWord_b (addr w : Word) (s : State) : (s.writeWord addr w).b = s.b := by
  simp [State.writeWord]
@[simp] theorem State.writeWord_c (addr w : Word) (s : State) : (s.writeWord addr w).c = s.c := by
  simp [State.writeWord]
@[simp] theorem State.writeWord_d (addr w : Word) (s : State) : (s.writeWord addr w).d = s.d := by
  simp [State.writeWord]
@[simp] theorem State.writeWord_e (addr w : Word) (s : State) : (s.writeWord addr w).e = s.e := by
  simp [State.writeWord]
@[simp] theorem State.writeWord_h (addr w : Word) (s : State) : (s.writeWord addr w).h = s.h := by
  simp [State.writeWord]
@[simp] theorem State.writeWord_l (addr w : Word) (s : State) : (s.writeWord addr w).l = s.l := by
  simp [State.writeWord]
@[simp] theorem State.writeWord_aShadow (addr w : Word) (s : State) : (s.writeWord addr w).aShadow = s.aShadow := by
  simp [State.writeWord]
@[simp] theorem State.writeWord_fShadow (addr w : Word) (s : State) : (s.writeWord addr w).fShadow = s.fShadow := by
  simp [State.writeWord]
@[simp] theorem State.writeWord_bShadow (addr w : Word) (s : State) : (s.writeWord addr w).bShadow = s.bShadow := by
  simp [State.writeWord]
@[simp] theorem State.writeWord_cShadow (addr w : Word) (s : State) : (s.writeWord addr w).cShadow = s.cShadow := by
  simp [State.writeWord]
@[simp] theorem State.writeWord_dShadow (addr w : Word) (s : State) : (s.writeWord addr w).dShadow = s.dShadow := by
  simp [State.writeWord]
@[simp] theorem State.writeWord_eShadow (addr w : Word) (s : State) : (s.writeWord addr w).eShadow = s.eShadow := by
  simp [State.writeWord]
@[simp] theorem State.writeWord_hShadow (addr w : Word) (s : State) : (s.writeWord addr w).hShadow = s.hShadow := by
  simp [State.writeWord]
@[simp] theorem State.writeWord_lShadow (addr w : Word) (s : State) : (s.writeWord addr w).lShadow = s.lShadow := by
  simp [State.writeWord]
@[simp] theorem State.writeWord_ix (addr w : Word) (s : State) : (s.writeWord addr w).ix = s.ix := by
  simp [State.writeWord]
@[simp] theorem State.writeWord_iy (addr w : Word) (s : State) : (s.writeWord addr w).iy = s.iy := by
  simp [State.writeWord]
@[simp] theorem State.writeWord_sp (addr w : Word) (s : State) : (s.writeWord addr w).sp = s.sp := by
  simp [State.writeWord]
@[simp] theorem State.writeWord_pc (addr w : Word) (s : State) : (s.writeWord addr w).pc = s.pc := by
  simp [State.writeWord]
@[simp] theorem State.writeWord_i (addr w : Word) (s : State) : (s.writeWord addr w).i = s.i := by
  simp [State.writeWord]
@[simp] theorem State.writeWord_r (addr w : Word) (s : State) : (s.writeWord addr w).r = s.r := by
  simp [State.writeWord]
@[simp] theorem State.writeWord_im (addr w : Word) (s : State) : (s.writeWord addr w).im = s.im := by
  simp [State.writeWord]
@[simp] theorem State.writeWord_iff1 (addr w : Word) (s : State) : (s.writeWord addr w).iff1 = s.iff1 := by
  simp [State.writeWord]
@[simp] theorem State.writeWord_iff2 (addr w : Word) (s : State) : (s.writeWord addr w).iff2 = s.iff2 := by
  simp [State.writeWord]
@[simp] theorem State.writeWord_halted (addr w : Word) (s : State) : (s.writeWord addr w).halted = s.halted := by
  simp [State.writeWord]
@[simp] theorem State.writeWord_eiShadow (addr w : Word) (s : State) : (s.writeWord addr w).eiShadow = s.eiShadow := by
  simp [State.writeWord]
@[simp] theorem State.writeWord_nmiPending (addr w : Word) (s : State) : (s.writeWord addr w).nmiPending = s.nmiPending := by
  simp [State.writeWord]
@[simp] theorem State.writeWord_memMap (addr w : Word) (s : State) : (s.writeWord addr w).memMap = s.memMap := by
  simp [State.writeWord]
@[simp] theorem State.writeWord_pins (addr w : Word) (s : State) : (s.writeWord addr w).pins = s.pins := by
  simp [State.writeWord]
@[simp] theorem State.writeWord_draws (addr w : Word) (s : State) : (s.writeWord addr w).draws = s.draws := by
  simp [State.writeWord]
@[simp] theorem State.writeWord_tStates (addr w : Word) (s : State) : (s.writeWord addr w).tStates = s.tStates := by
  simp [State.writeWord]

/-! ### `writeWordHighFirst` -/

@[simp] theorem State.writeWordHighFirst_a (addr w : Word) (s : State) : (s.writeWordHighFirst addr w).a = s.a := by
  simp [State.writeWordHighFirst]
@[simp] theorem State.writeWordHighFirst_f (addr w : Word) (s : State) : (s.writeWordHighFirst addr w).f = s.f := by
  simp [State.writeWordHighFirst]
@[simp] theorem State.writeWordHighFirst_b (addr w : Word) (s : State) : (s.writeWordHighFirst addr w).b = s.b := by
  simp [State.writeWordHighFirst]
@[simp] theorem State.writeWordHighFirst_c (addr w : Word) (s : State) : (s.writeWordHighFirst addr w).c = s.c := by
  simp [State.writeWordHighFirst]
@[simp] theorem State.writeWordHighFirst_d (addr w : Word) (s : State) : (s.writeWordHighFirst addr w).d = s.d := by
  simp [State.writeWordHighFirst]
@[simp] theorem State.writeWordHighFirst_e (addr w : Word) (s : State) : (s.writeWordHighFirst addr w).e = s.e := by
  simp [State.writeWordHighFirst]
@[simp] theorem State.writeWordHighFirst_h (addr w : Word) (s : State) : (s.writeWordHighFirst addr w).h = s.h := by
  simp [State.writeWordHighFirst]
@[simp] theorem State.writeWordHighFirst_l (addr w : Word) (s : State) : (s.writeWordHighFirst addr w).l = s.l := by
  simp [State.writeWordHighFirst]
@[simp] theorem State.writeWordHighFirst_aShadow (addr w : Word) (s : State) : (s.writeWordHighFirst addr w).aShadow = s.aShadow := by
  simp [State.writeWordHighFirst]
@[simp] theorem State.writeWordHighFirst_fShadow (addr w : Word) (s : State) : (s.writeWordHighFirst addr w).fShadow = s.fShadow := by
  simp [State.writeWordHighFirst]
@[simp] theorem State.writeWordHighFirst_bShadow (addr w : Word) (s : State) : (s.writeWordHighFirst addr w).bShadow = s.bShadow := by
  simp [State.writeWordHighFirst]
@[simp] theorem State.writeWordHighFirst_cShadow (addr w : Word) (s : State) : (s.writeWordHighFirst addr w).cShadow = s.cShadow := by
  simp [State.writeWordHighFirst]
@[simp] theorem State.writeWordHighFirst_dShadow (addr w : Word) (s : State) : (s.writeWordHighFirst addr w).dShadow = s.dShadow := by
  simp [State.writeWordHighFirst]
@[simp] theorem State.writeWordHighFirst_eShadow (addr w : Word) (s : State) : (s.writeWordHighFirst addr w).eShadow = s.eShadow := by
  simp [State.writeWordHighFirst]
@[simp] theorem State.writeWordHighFirst_hShadow (addr w : Word) (s : State) : (s.writeWordHighFirst addr w).hShadow = s.hShadow := by
  simp [State.writeWordHighFirst]
@[simp] theorem State.writeWordHighFirst_lShadow (addr w : Word) (s : State) : (s.writeWordHighFirst addr w).lShadow = s.lShadow := by
  simp [State.writeWordHighFirst]
@[simp] theorem State.writeWordHighFirst_ix (addr w : Word) (s : State) : (s.writeWordHighFirst addr w).ix = s.ix := by
  simp [State.writeWordHighFirst]
@[simp] theorem State.writeWordHighFirst_iy (addr w : Word) (s : State) : (s.writeWordHighFirst addr w).iy = s.iy := by
  simp [State.writeWordHighFirst]
@[simp] theorem State.writeWordHighFirst_sp (addr w : Word) (s : State) : (s.writeWordHighFirst addr w).sp = s.sp := by
  simp [State.writeWordHighFirst]
@[simp] theorem State.writeWordHighFirst_pc (addr w : Word) (s : State) : (s.writeWordHighFirst addr w).pc = s.pc := by
  simp [State.writeWordHighFirst]
@[simp] theorem State.writeWordHighFirst_i (addr w : Word) (s : State) : (s.writeWordHighFirst addr w).i = s.i := by
  simp [State.writeWordHighFirst]
@[simp] theorem State.writeWordHighFirst_r (addr w : Word) (s : State) : (s.writeWordHighFirst addr w).r = s.r := by
  simp [State.writeWordHighFirst]
@[simp] theorem State.writeWordHighFirst_im (addr w : Word) (s : State) : (s.writeWordHighFirst addr w).im = s.im := by
  simp [State.writeWordHighFirst]
@[simp] theorem State.writeWordHighFirst_iff1 (addr w : Word) (s : State) : (s.writeWordHighFirst addr w).iff1 = s.iff1 := by
  simp [State.writeWordHighFirst]
@[simp] theorem State.writeWordHighFirst_iff2 (addr w : Word) (s : State) : (s.writeWordHighFirst addr w).iff2 = s.iff2 := by
  simp [State.writeWordHighFirst]
@[simp] theorem State.writeWordHighFirst_halted (addr w : Word) (s : State) : (s.writeWordHighFirst addr w).halted = s.halted := by
  simp [State.writeWordHighFirst]
@[simp] theorem State.writeWordHighFirst_eiShadow (addr w : Word) (s : State) : (s.writeWordHighFirst addr w).eiShadow = s.eiShadow := by
  simp [State.writeWordHighFirst]
@[simp] theorem State.writeWordHighFirst_nmiPending (addr w : Word) (s : State) : (s.writeWordHighFirst addr w).nmiPending = s.nmiPending := by
  simp [State.writeWordHighFirst]
@[simp] theorem State.writeWordHighFirst_memMap (addr w : Word) (s : State) : (s.writeWordHighFirst addr w).memMap = s.memMap := by
  simp [State.writeWordHighFirst]
@[simp] theorem State.writeWordHighFirst_pins (addr w : Word) (s : State) : (s.writeWordHighFirst addr w).pins = s.pins := by
  simp [State.writeWordHighFirst]
@[simp] theorem State.writeWordHighFirst_draws (addr w : Word) (s : State) : (s.writeWordHighFirst addr w).draws = s.draws := by
  simp [State.writeWordHighFirst]
@[simp] theorem State.writeWordHighFirst_tStates (addr w : Word) (s : State) : (s.writeWordHighFirst addr w).tStates = s.tStates := by
  simp [State.writeWordHighFirst]

/-! ### `readWord` -/

@[simp] theorem State.readWord_a (addr : Word) (s : State) : ((s.readWord addr).2).a = s.a := by
  simp [State.readWord]
@[simp] theorem State.readWord_f (addr : Word) (s : State) : ((s.readWord addr).2).f = s.f := by
  simp [State.readWord]
@[simp] theorem State.readWord_b (addr : Word) (s : State) : ((s.readWord addr).2).b = s.b := by
  simp [State.readWord]
@[simp] theorem State.readWord_c (addr : Word) (s : State) : ((s.readWord addr).2).c = s.c := by
  simp [State.readWord]
@[simp] theorem State.readWord_d (addr : Word) (s : State) : ((s.readWord addr).2).d = s.d := by
  simp [State.readWord]
@[simp] theorem State.readWord_e (addr : Word) (s : State) : ((s.readWord addr).2).e = s.e := by
  simp [State.readWord]
@[simp] theorem State.readWord_h (addr : Word) (s : State) : ((s.readWord addr).2).h = s.h := by
  simp [State.readWord]
@[simp] theorem State.readWord_l (addr : Word) (s : State) : ((s.readWord addr).2).l = s.l := by
  simp [State.readWord]
@[simp] theorem State.readWord_aShadow (addr : Word) (s : State) : ((s.readWord addr).2).aShadow = s.aShadow := by
  simp [State.readWord]
@[simp] theorem State.readWord_fShadow (addr : Word) (s : State) : ((s.readWord addr).2).fShadow = s.fShadow := by
  simp [State.readWord]
@[simp] theorem State.readWord_bShadow (addr : Word) (s : State) : ((s.readWord addr).2).bShadow = s.bShadow := by
  simp [State.readWord]
@[simp] theorem State.readWord_cShadow (addr : Word) (s : State) : ((s.readWord addr).2).cShadow = s.cShadow := by
  simp [State.readWord]
@[simp] theorem State.readWord_dShadow (addr : Word) (s : State) : ((s.readWord addr).2).dShadow = s.dShadow := by
  simp [State.readWord]
@[simp] theorem State.readWord_eShadow (addr : Word) (s : State) : ((s.readWord addr).2).eShadow = s.eShadow := by
  simp [State.readWord]
@[simp] theorem State.readWord_hShadow (addr : Word) (s : State) : ((s.readWord addr).2).hShadow = s.hShadow := by
  simp [State.readWord]
@[simp] theorem State.readWord_lShadow (addr : Word) (s : State) : ((s.readWord addr).2).lShadow = s.lShadow := by
  simp [State.readWord]
@[simp] theorem State.readWord_ix (addr : Word) (s : State) : ((s.readWord addr).2).ix = s.ix := by
  simp [State.readWord]
@[simp] theorem State.readWord_iy (addr : Word) (s : State) : ((s.readWord addr).2).iy = s.iy := by
  simp [State.readWord]
@[simp] theorem State.readWord_sp (addr : Word) (s : State) : ((s.readWord addr).2).sp = s.sp := by
  simp [State.readWord]
@[simp] theorem State.readWord_pc (addr : Word) (s : State) : ((s.readWord addr).2).pc = s.pc := by
  simp [State.readWord]
@[simp] theorem State.readWord_i (addr : Word) (s : State) : ((s.readWord addr).2).i = s.i := by
  simp [State.readWord]
@[simp] theorem State.readWord_r (addr : Word) (s : State) : ((s.readWord addr).2).r = s.r := by
  simp [State.readWord]
@[simp] theorem State.readWord_im (addr : Word) (s : State) : ((s.readWord addr).2).im = s.im := by
  simp [State.readWord]
@[simp] theorem State.readWord_iff1 (addr : Word) (s : State) : ((s.readWord addr).2).iff1 = s.iff1 := by
  simp [State.readWord]
@[simp] theorem State.readWord_iff2 (addr : Word) (s : State) : ((s.readWord addr).2).iff2 = s.iff2 := by
  simp [State.readWord]
@[simp] theorem State.readWord_halted (addr : Word) (s : State) : ((s.readWord addr).2).halted = s.halted := by
  simp [State.readWord]
@[simp] theorem State.readWord_eiShadow (addr : Word) (s : State) : ((s.readWord addr).2).eiShadow = s.eiShadow := by
  simp [State.readWord]
@[simp] theorem State.readWord_nmiPending (addr : Word) (s : State) : ((s.readWord addr).2).nmiPending = s.nmiPending := by
  simp [State.readWord]
@[simp] theorem State.readWord_mem (addr : Word) (s : State) : ((s.readWord addr).2).mem = s.mem := by
  simp [State.readWord]
@[simp] theorem State.readWord_memMap (addr : Word) (s : State) : ((s.readWord addr).2).memMap = s.memMap := by
  simp [State.readWord]
@[simp] theorem State.readWord_pins (addr : Word) (s : State) : ((s.readWord addr).2).pins = s.pins := by
  simp [State.readWord]
@[simp] theorem State.readWord_draws (addr : Word) (s : State) : ((s.readWord addr).2).draws = s.draws := by
  simp [State.readWord]
@[simp] theorem State.readWord_tStates (addr : Word) (s : State) : ((s.readWord addr).2).tStates = s.tStates := by
  simp [State.readWord]

/-! ### `push16` -/

@[simp] theorem State.push16_a (w : Word) (s : State) : (s.push16 w).a = s.a := by
  simp [State.push16]
@[simp] theorem State.push16_f (w : Word) (s : State) : (s.push16 w).f = s.f := by
  simp [State.push16]
@[simp] theorem State.push16_b (w : Word) (s : State) : (s.push16 w).b = s.b := by
  simp [State.push16]
@[simp] theorem State.push16_c (w : Word) (s : State) : (s.push16 w).c = s.c := by
  simp [State.push16]
@[simp] theorem State.push16_d (w : Word) (s : State) : (s.push16 w).d = s.d := by
  simp [State.push16]
@[simp] theorem State.push16_e (w : Word) (s : State) : (s.push16 w).e = s.e := by
  simp [State.push16]
@[simp] theorem State.push16_h (w : Word) (s : State) : (s.push16 w).h = s.h := by
  simp [State.push16]
@[simp] theorem State.push16_l (w : Word) (s : State) : (s.push16 w).l = s.l := by
  simp [State.push16]
@[simp] theorem State.push16_aShadow (w : Word) (s : State) : (s.push16 w).aShadow = s.aShadow := by
  simp [State.push16]
@[simp] theorem State.push16_fShadow (w : Word) (s : State) : (s.push16 w).fShadow = s.fShadow := by
  simp [State.push16]
@[simp] theorem State.push16_bShadow (w : Word) (s : State) : (s.push16 w).bShadow = s.bShadow := by
  simp [State.push16]
@[simp] theorem State.push16_cShadow (w : Word) (s : State) : (s.push16 w).cShadow = s.cShadow := by
  simp [State.push16]
@[simp] theorem State.push16_dShadow (w : Word) (s : State) : (s.push16 w).dShadow = s.dShadow := by
  simp [State.push16]
@[simp] theorem State.push16_eShadow (w : Word) (s : State) : (s.push16 w).eShadow = s.eShadow := by
  simp [State.push16]
@[simp] theorem State.push16_hShadow (w : Word) (s : State) : (s.push16 w).hShadow = s.hShadow := by
  simp [State.push16]
@[simp] theorem State.push16_lShadow (w : Word) (s : State) : (s.push16 w).lShadow = s.lShadow := by
  simp [State.push16]
@[simp] theorem State.push16_ix (w : Word) (s : State) : (s.push16 w).ix = s.ix := by
  simp [State.push16]
@[simp] theorem State.push16_iy (w : Word) (s : State) : (s.push16 w).iy = s.iy := by
  simp [State.push16]
@[simp] theorem State.push16_pc (w : Word) (s : State) : (s.push16 w).pc = s.pc := by
  simp [State.push16]
@[simp] theorem State.push16_i (w : Word) (s : State) : (s.push16 w).i = s.i := by
  simp [State.push16]
@[simp] theorem State.push16_r (w : Word) (s : State) : (s.push16 w).r = s.r := by
  simp [State.push16]
@[simp] theorem State.push16_im (w : Word) (s : State) : (s.push16 w).im = s.im := by
  simp [State.push16]
@[simp] theorem State.push16_iff1 (w : Word) (s : State) : (s.push16 w).iff1 = s.iff1 := by
  simp [State.push16]
@[simp] theorem State.push16_iff2 (w : Word) (s : State) : (s.push16 w).iff2 = s.iff2 := by
  simp [State.push16]
@[simp] theorem State.push16_halted (w : Word) (s : State) : (s.push16 w).halted = s.halted := by
  simp [State.push16]
@[simp] theorem State.push16_eiShadow (w : Word) (s : State) : (s.push16 w).eiShadow = s.eiShadow := by
  simp [State.push16]
@[simp] theorem State.push16_nmiPending (w : Word) (s : State) : (s.push16 w).nmiPending = s.nmiPending := by
  simp [State.push16]
@[simp] theorem State.push16_memMap (w : Word) (s : State) : (s.push16 w).memMap = s.memMap := by
  simp [State.push16]
@[simp] theorem State.push16_pins (w : Word) (s : State) : (s.push16 w).pins = s.pins := by
  simp [State.push16]
@[simp] theorem State.push16_draws (w : Word) (s : State) : (s.push16 w).draws = s.draws := by
  simp [State.push16]
@[simp] theorem State.push16_tStates (w : Word) (s : State) : (s.push16 w).tStates = s.tStates := by
  simp [State.push16]
@[simp] theorem State.push16_sp (w : Word) (s : State) : (s.push16 w).sp = s.sp - 2 := by simp [State.push16]

/-! ### `pop16` -/

@[simp] theorem State.pop16_a (s : State) : (s.pop16.2).a = s.a := by
  simp [State.pop16]
@[simp] theorem State.pop16_f (s : State) : (s.pop16.2).f = s.f := by
  simp [State.pop16]
@[simp] theorem State.pop16_b (s : State) : (s.pop16.2).b = s.b := by
  simp [State.pop16]
@[simp] theorem State.pop16_c (s : State) : (s.pop16.2).c = s.c := by
  simp [State.pop16]
@[simp] theorem State.pop16_d (s : State) : (s.pop16.2).d = s.d := by
  simp [State.pop16]
@[simp] theorem State.pop16_e (s : State) : (s.pop16.2).e = s.e := by
  simp [State.pop16]
@[simp] theorem State.pop16_h (s : State) : (s.pop16.2).h = s.h := by
  simp [State.pop16]
@[simp] theorem State.pop16_l (s : State) : (s.pop16.2).l = s.l := by
  simp [State.pop16]
@[simp] theorem State.pop16_aShadow (s : State) : (s.pop16.2).aShadow = s.aShadow := by
  simp [State.pop16]
@[simp] theorem State.pop16_fShadow (s : State) : (s.pop16.2).fShadow = s.fShadow := by
  simp [State.pop16]
@[simp] theorem State.pop16_bShadow (s : State) : (s.pop16.2).bShadow = s.bShadow := by
  simp [State.pop16]
@[simp] theorem State.pop16_cShadow (s : State) : (s.pop16.2).cShadow = s.cShadow := by
  simp [State.pop16]
@[simp] theorem State.pop16_dShadow (s : State) : (s.pop16.2).dShadow = s.dShadow := by
  simp [State.pop16]
@[simp] theorem State.pop16_eShadow (s : State) : (s.pop16.2).eShadow = s.eShadow := by
  simp [State.pop16]
@[simp] theorem State.pop16_hShadow (s : State) : (s.pop16.2).hShadow = s.hShadow := by
  simp [State.pop16]
@[simp] theorem State.pop16_lShadow (s : State) : (s.pop16.2).lShadow = s.lShadow := by
  simp [State.pop16]
@[simp] theorem State.pop16_ix (s : State) : (s.pop16.2).ix = s.ix := by
  simp [State.pop16]
@[simp] theorem State.pop16_iy (s : State) : (s.pop16.2).iy = s.iy := by
  simp [State.pop16]
@[simp] theorem State.pop16_pc (s : State) : (s.pop16.2).pc = s.pc := by
  simp [State.pop16]
@[simp] theorem State.pop16_i (s : State) : (s.pop16.2).i = s.i := by
  simp [State.pop16]
@[simp] theorem State.pop16_r (s : State) : (s.pop16.2).r = s.r := by
  simp [State.pop16]
@[simp] theorem State.pop16_im (s : State) : (s.pop16.2).im = s.im := by
  simp [State.pop16]
@[simp] theorem State.pop16_iff1 (s : State) : (s.pop16.2).iff1 = s.iff1 := by
  simp [State.pop16]
@[simp] theorem State.pop16_iff2 (s : State) : (s.pop16.2).iff2 = s.iff2 := by
  simp [State.pop16]
@[simp] theorem State.pop16_halted (s : State) : (s.pop16.2).halted = s.halted := by
  simp [State.pop16]
@[simp] theorem State.pop16_eiShadow (s : State) : (s.pop16.2).eiShadow = s.eiShadow := by
  simp [State.pop16]
@[simp] theorem State.pop16_nmiPending (s : State) : (s.pop16.2).nmiPending = s.nmiPending := by
  simp [State.pop16]
@[simp] theorem State.pop16_mem (s : State) : (s.pop16.2).mem = s.mem := by
  simp [State.pop16]
@[simp] theorem State.pop16_memMap (s : State) : (s.pop16.2).memMap = s.memMap := by
  simp [State.pop16]
@[simp] theorem State.pop16_pins (s : State) : (s.pop16.2).pins = s.pins := by
  simp [State.pop16]
@[simp] theorem State.pop16_draws (s : State) : (s.pop16.2).draws = s.draws := by
  simp [State.pop16]
@[simp] theorem State.pop16_tStates (s : State) : (s.pop16.2).tStates = s.tStates := by
  simp [State.pop16]
@[simp] theorem State.pop16_sp (s : State) : (s.pop16.2).sp = s.sp + 2 := by simp [State.pop16]

/-! ### `readLocation` -/

@[simp] theorem State.readLocation_a (loc : Location8) (s : State) : ((s.readLocation loc).2).a = s.a := by
  cases loc <;> simp [State.readLocation]
@[simp] theorem State.readLocation_f (loc : Location8) (s : State) : ((s.readLocation loc).2).f = s.f := by
  cases loc <;> simp [State.readLocation]
@[simp] theorem State.readLocation_b (loc : Location8) (s : State) : ((s.readLocation loc).2).b = s.b := by
  cases loc <;> simp [State.readLocation]
@[simp] theorem State.readLocation_c (loc : Location8) (s : State) : ((s.readLocation loc).2).c = s.c := by
  cases loc <;> simp [State.readLocation]
@[simp] theorem State.readLocation_d (loc : Location8) (s : State) : ((s.readLocation loc).2).d = s.d := by
  cases loc <;> simp [State.readLocation]
@[simp] theorem State.readLocation_e (loc : Location8) (s : State) : ((s.readLocation loc).2).e = s.e := by
  cases loc <;> simp [State.readLocation]
@[simp] theorem State.readLocation_h (loc : Location8) (s : State) : ((s.readLocation loc).2).h = s.h := by
  cases loc <;> simp [State.readLocation]
@[simp] theorem State.readLocation_l (loc : Location8) (s : State) : ((s.readLocation loc).2).l = s.l := by
  cases loc <;> simp [State.readLocation]
@[simp] theorem State.readLocation_aShadow (loc : Location8) (s : State) : ((s.readLocation loc).2).aShadow = s.aShadow := by
  cases loc <;> simp [State.readLocation]
@[simp] theorem State.readLocation_fShadow (loc : Location8) (s : State) : ((s.readLocation loc).2).fShadow = s.fShadow := by
  cases loc <;> simp [State.readLocation]
@[simp] theorem State.readLocation_bShadow (loc : Location8) (s : State) : ((s.readLocation loc).2).bShadow = s.bShadow := by
  cases loc <;> simp [State.readLocation]
@[simp] theorem State.readLocation_cShadow (loc : Location8) (s : State) : ((s.readLocation loc).2).cShadow = s.cShadow := by
  cases loc <;> simp [State.readLocation]
@[simp] theorem State.readLocation_dShadow (loc : Location8) (s : State) : ((s.readLocation loc).2).dShadow = s.dShadow := by
  cases loc <;> simp [State.readLocation]
@[simp] theorem State.readLocation_eShadow (loc : Location8) (s : State) : ((s.readLocation loc).2).eShadow = s.eShadow := by
  cases loc <;> simp [State.readLocation]
@[simp] theorem State.readLocation_hShadow (loc : Location8) (s : State) : ((s.readLocation loc).2).hShadow = s.hShadow := by
  cases loc <;> simp [State.readLocation]
@[simp] theorem State.readLocation_lShadow (loc : Location8) (s : State) : ((s.readLocation loc).2).lShadow = s.lShadow := by
  cases loc <;> simp [State.readLocation]
@[simp] theorem State.readLocation_ix (loc : Location8) (s : State) : ((s.readLocation loc).2).ix = s.ix := by
  cases loc <;> simp [State.readLocation]
@[simp] theorem State.readLocation_iy (loc : Location8) (s : State) : ((s.readLocation loc).2).iy = s.iy := by
  cases loc <;> simp [State.readLocation]
@[simp] theorem State.readLocation_sp (loc : Location8) (s : State) : ((s.readLocation loc).2).sp = s.sp := by
  cases loc <;> simp [State.readLocation]
@[simp] theorem State.readLocation_pc (loc : Location8) (s : State) : ((s.readLocation loc).2).pc = s.pc := by
  cases loc <;> simp [State.readLocation]
@[simp] theorem State.readLocation_i (loc : Location8) (s : State) : ((s.readLocation loc).2).i = s.i := by
  cases loc <;> simp [State.readLocation]
@[simp] theorem State.readLocation_r (loc : Location8) (s : State) : ((s.readLocation loc).2).r = s.r := by
  cases loc <;> simp [State.readLocation]
@[simp] theorem State.readLocation_im (loc : Location8) (s : State) : ((s.readLocation loc).2).im = s.im := by
  cases loc <;> simp [State.readLocation]
@[simp] theorem State.readLocation_iff1 (loc : Location8) (s : State) : ((s.readLocation loc).2).iff1 = s.iff1 := by
  cases loc <;> simp [State.readLocation]
@[simp] theorem State.readLocation_iff2 (loc : Location8) (s : State) : ((s.readLocation loc).2).iff2 = s.iff2 := by
  cases loc <;> simp [State.readLocation]
@[simp] theorem State.readLocation_halted (loc : Location8) (s : State) : ((s.readLocation loc).2).halted = s.halted := by
  cases loc <;> simp [State.readLocation]
@[simp] theorem State.readLocation_eiShadow (loc : Location8) (s : State) : ((s.readLocation loc).2).eiShadow = s.eiShadow := by
  cases loc <;> simp [State.readLocation]
@[simp] theorem State.readLocation_nmiPending (loc : Location8) (s : State) : ((s.readLocation loc).2).nmiPending = s.nmiPending := by
  cases loc <;> simp [State.readLocation]
@[simp] theorem State.readLocation_mem (loc : Location8) (s : State) : ((s.readLocation loc).2).mem = s.mem := by
  cases loc <;> simp [State.readLocation]
@[simp] theorem State.readLocation_memMap (loc : Location8) (s : State) : ((s.readLocation loc).2).memMap = s.memMap := by
  cases loc <;> simp [State.readLocation]
@[simp] theorem State.readLocation_pins (loc : Location8) (s : State) : ((s.readLocation loc).2).pins = s.pins := by
  cases loc <;> simp [State.readLocation]
@[simp] theorem State.readLocation_draws (loc : Location8) (s : State) : ((s.readLocation loc).2).draws = s.draws := by
  cases loc <;> simp [State.readLocation]
@[simp] theorem State.readLocation_tStates (loc : Location8) (s : State) : ((s.readLocation loc).2).tStates = s.tStates := by
  cases loc <;> simp [State.readLocation]

/-! ### `read8` -/

@[simp] theorem State.read8_a (o : Operand8) (s : State) : ((s.read8 o).2).a = s.a := by
  cases o <;> simp [State.read8]
@[simp] theorem State.read8_f (o : Operand8) (s : State) : ((s.read8 o).2).f = s.f := by
  cases o <;> simp [State.read8]
@[simp] theorem State.read8_b (o : Operand8) (s : State) : ((s.read8 o).2).b = s.b := by
  cases o <;> simp [State.read8]
@[simp] theorem State.read8_c (o : Operand8) (s : State) : ((s.read8 o).2).c = s.c := by
  cases o <;> simp [State.read8]
@[simp] theorem State.read8_d (o : Operand8) (s : State) : ((s.read8 o).2).d = s.d := by
  cases o <;> simp [State.read8]
@[simp] theorem State.read8_e (o : Operand8) (s : State) : ((s.read8 o).2).e = s.e := by
  cases o <;> simp [State.read8]
@[simp] theorem State.read8_h (o : Operand8) (s : State) : ((s.read8 o).2).h = s.h := by
  cases o <;> simp [State.read8]
@[simp] theorem State.read8_l (o : Operand8) (s : State) : ((s.read8 o).2).l = s.l := by
  cases o <;> simp [State.read8]
@[simp] theorem State.read8_aShadow (o : Operand8) (s : State) : ((s.read8 o).2).aShadow = s.aShadow := by
  cases o <;> simp [State.read8]
@[simp] theorem State.read8_fShadow (o : Operand8) (s : State) : ((s.read8 o).2).fShadow = s.fShadow := by
  cases o <;> simp [State.read8]
@[simp] theorem State.read8_bShadow (o : Operand8) (s : State) : ((s.read8 o).2).bShadow = s.bShadow := by
  cases o <;> simp [State.read8]
@[simp] theorem State.read8_cShadow (o : Operand8) (s : State) : ((s.read8 o).2).cShadow = s.cShadow := by
  cases o <;> simp [State.read8]
@[simp] theorem State.read8_dShadow (o : Operand8) (s : State) : ((s.read8 o).2).dShadow = s.dShadow := by
  cases o <;> simp [State.read8]
@[simp] theorem State.read8_eShadow (o : Operand8) (s : State) : ((s.read8 o).2).eShadow = s.eShadow := by
  cases o <;> simp [State.read8]
@[simp] theorem State.read8_hShadow (o : Operand8) (s : State) : ((s.read8 o).2).hShadow = s.hShadow := by
  cases o <;> simp [State.read8]
@[simp] theorem State.read8_lShadow (o : Operand8) (s : State) : ((s.read8 o).2).lShadow = s.lShadow := by
  cases o <;> simp [State.read8]
@[simp] theorem State.read8_ix (o : Operand8) (s : State) : ((s.read8 o).2).ix = s.ix := by
  cases o <;> simp [State.read8]
@[simp] theorem State.read8_iy (o : Operand8) (s : State) : ((s.read8 o).2).iy = s.iy := by
  cases o <;> simp [State.read8]
@[simp] theorem State.read8_sp (o : Operand8) (s : State) : ((s.read8 o).2).sp = s.sp := by
  cases o <;> simp [State.read8]
@[simp] theorem State.read8_pc (o : Operand8) (s : State) : ((s.read8 o).2).pc = s.pc := by
  cases o <;> simp [State.read8]
@[simp] theorem State.read8_i (o : Operand8) (s : State) : ((s.read8 o).2).i = s.i := by
  cases o <;> simp [State.read8]
@[simp] theorem State.read8_r (o : Operand8) (s : State) : ((s.read8 o).2).r = s.r := by
  cases o <;> simp [State.read8]
@[simp] theorem State.read8_im (o : Operand8) (s : State) : ((s.read8 o).2).im = s.im := by
  cases o <;> simp [State.read8]
@[simp] theorem State.read8_iff1 (o : Operand8) (s : State) : ((s.read8 o).2).iff1 = s.iff1 := by
  cases o <;> simp [State.read8]
@[simp] theorem State.read8_iff2 (o : Operand8) (s : State) : ((s.read8 o).2).iff2 = s.iff2 := by
  cases o <;> simp [State.read8]
@[simp] theorem State.read8_halted (o : Operand8) (s : State) : ((s.read8 o).2).halted = s.halted := by
  cases o <;> simp [State.read8]
@[simp] theorem State.read8_eiShadow (o : Operand8) (s : State) : ((s.read8 o).2).eiShadow = s.eiShadow := by
  cases o <;> simp [State.read8]
@[simp] theorem State.read8_nmiPending (o : Operand8) (s : State) : ((s.read8 o).2).nmiPending = s.nmiPending := by
  cases o <;> simp [State.read8]
@[simp] theorem State.read8_mem (o : Operand8) (s : State) : ((s.read8 o).2).mem = s.mem := by
  cases o <;> simp [State.read8]
@[simp] theorem State.read8_memMap (o : Operand8) (s : State) : ((s.read8 o).2).memMap = s.memMap := by
  cases o <;> simp [State.read8]
@[simp] theorem State.read8_pins (o : Operand8) (s : State) : ((s.read8 o).2).pins = s.pins := by
  cases o <;> simp [State.read8]
@[simp] theorem State.read8_draws (o : Operand8) (s : State) : ((s.read8 o).2).draws = s.draws := by
  cases o <;> simp [State.read8]
@[simp] theorem State.read8_tStates (o : Operand8) (s : State) : ((s.read8 o).2).tStates = s.tStates := by
  cases o <;> simp [State.read8]

/-! ### Bytes of words, and pairs -/

theorem joinBytes_toNat (hi lo : Byte) : (joinBytes hi lo).toNat = hi.toNat * 256 + lo.toNat := by
  have h : hi.toNat <<< 8 ||| lo.toNat = hi.toNat <<< 8 + lo.toNat :=
    (Nat.shiftLeft_add_eq_or_of_lt lo.isLt hi.toNat).symm
  rw [Nat.shiftLeft_eq] at h
  exact (BitVec.toNat_append hi lo).trans (by rw [Nat.shiftLeft_eq]; exact h)

theorem hiByte_toNat (w : Word) : (hiByte w).toNat = w.toNat / 256 := by
  have := w.isLt
  simp only [hiByte, BitVec.extractLsb'_toNat, Nat.shiftRight_eq_div_pow]
  omega

theorem loByte_toNat (w : Word) : (loByte w).toNat = w.toNat % 256 := by
  simp [loByte, BitVec.extractLsb'_toNat]

@[simp] theorem hiByte_joinBytes (hi lo : Byte) : hiByte (joinBytes hi lo) = hi :=
  BitVec.eq_of_toNat_eq (by have := lo.isLt; rw [hiByte_toNat, joinBytes_toNat]; omega)

@[simp] theorem loByte_joinBytes (hi lo : Byte) : loByte (joinBytes hi lo) = lo :=
  BitVec.eq_of_toNat_eq (by have := lo.isLt; rw [loByte_toNat, joinBytes_toNat]; omega)

@[simp] theorem joinBytes_hi_lo (w : Word) : joinBytes (hiByte w) (loByte w) = w :=
  BitVec.eq_of_toNat_eq (by rw [joinBytes_toNat, hiByte_toNat, loByte_toNat]; omega)

@[simp] theorem State.setBC_bc (w : Word) (s : State) : (s.setBC w).bc = w := joinBytes_hi_lo w
@[simp] theorem State.setDE_de (w : Word) (s : State) : (s.setDE w).de = w := joinBytes_hi_lo w
@[simp] theorem State.setHL_hl (w : Word) (s : State) : (s.setHL w).hl = w := joinBytes_hi_lo w

end Sys2Proof.Machine
end

