-- ==== Sys2Proof/Laws/Ops.lean ====
section
/-! SUPPORT. For each shared operation one lemma that says once everything it can do, and what it leaves of memory:
later proofs cite these instead of unfolding the operation. -/

namespace Sys2Proof.Machine

/-! ### Reading bytes and words (rules R62, R66) -/

/-- What backs an address depends on the memory map alone. -/
theorem State.kindAt_congr {s t : State} (h : t.memMap = s.memMap) (addr : Word) : t.kindAt addr = s.kindAt addr := by
  simp only [State.kindAt, h]

/-- What an address holds depends on memory alone. -/
theorem State.peek_congr {s t : State} (h : t.mem = s.mem) (addr : Word) : t.peek addr = s.peek addr := by
  simp only [State.peek, h]

/-- With no region every address is RAM. -/
theorem State.kindAt_of_no_region {s : State} (h : s.memMap = []) (addr : Word) : s.kindAt addr = .ram := by
  simp only [State.kindAt, h, List.find?_nil]

/-- Everything a byte read can do. -/
theorem State.readByte_cases (addr : Word) (s : State) :
    ((s.kindAt addr = .ram ∨ s.kindAt addr = .rom) ∧ s.readByte addr = (s.peek addr, s)) ∨
      ((s.kindAt addr = .unbacked ∨ s.kindAt addr = .device) ∧
        s.readByte addr = (Config.platformByte addr s.history,
          s.logEvent (.memRead addr (Config.platformByte addr s.history)))) := by
  unfold State.readByte
  split <;> simp [*]

/-- A read of RAM or ROM answers the byte held and changes nothing. -/
theorem State.readByte_of_held {s : State} {addr : Word} (h : s.kindAt addr = .ram ∨ s.kindAt addr = .rom) :
    s.readByte addr = (s.peek addr, s) := by
  rcases s.readByte_cases addr with ⟨-, hr⟩ | ⟨hk, -⟩
  · exact hr
  · rcases h with h | h <;> simp [h] at hk

/-- A byte read changes nothing but the history. -/
theorem State.readByte_state (addr : Word) (s : State) :
    (s.readByte addr).2 = { s with history := (s.readByte addr).2.history } := by
  rcases s.readByte_cases addr with ⟨-, h⟩ | ⟨-, h⟩ <;> rw [h] <;> rfl

/-- A byte read depends on memory, the memory map and the history alone. -/
theorem State.readByte_congr {s t : State} (hm : t.mem = s.mem) (hk : t.memMap = s.memMap)
    (hh : t.history = s.history) (addr : Word) :
    t.readByte addr = ((s.readByte addr).1, { t with history := (s.readByte addr).2.history }) := by
  have hkind := State.kindAt_congr hk addr
  have hpeek := State.peek_congr hm addr
  rcases s.readByte_cases addr with ⟨hs, hr⟩ | ⟨hs, hr⟩ <;> rcases t.readByte_cases addr with ⟨ht, hq⟩ | ⟨ht, hq⟩
  · rw [hr, hq, hpeek, ← hh]
  · rw [hkind] at ht
    rcases hs with h | h <;> simp [h] at ht
  · rw [hkind] at ht
    rcases hs with h | h <;> simp [h] at ht
  · rw [hr, hq, hh]
    simp [State.logEvent, hh]

/-- A word read changes nothing but the history. -/
theorem State.readWord_state (addr : Word) (s : State) :
    (s.readWord addr).2 = { s with history := (s.readWord addr).2.history } := by
  apply State.ext <;> simp

/-- A pop changes nothing but `SP` and the history. -/
theorem State.pop16_state (s : State) :
    s.pop16 = ((s.readWord s.sp).1, { s with sp := s.sp + 2, history := (s.readWord s.sp).2.history }) :=
  Prod.ext rfl (by apply State.ext <;> simp [State.pop16])

/-! ### Writing bytes and words (rules R63, R65, R66, R266) -/

/-- Everything a byte write can do. -/
theorem State.writeByte_cases (addr : Word) (v : Byte) (s : State) :
    (s.kindAt addr = .ram ∧ s.writeByte addr v = { s with mem := Memory.write s.mem addr.toNat v }) ∨
      ((s.kindAt addr = .rom ∨ s.kindAt addr = .unbacked) ∧ s.writeByte addr v = s) ∨
      (s.kindAt addr = .device ∧ s.writeByte addr v = { s with history := .memWrite addr v :: s.history }) := by
  unfold State.writeByte
  split <;> simp [*, State.logEvent]

/-- A byte write changes nothing but memory and the history. -/
theorem State.writeByte_state (addr : Word) (v : Byte) (s : State) :
    s.writeByte addr v =
      { s with mem := (s.writeByte addr v).mem, history := (s.writeByte addr v).history } := by
  apply State.ext <;> simp

/-- The memory and the history a byte write leaves depend on the memory, memory map and history it finds alone. -/
theorem State.writeByte_congr {s t : State} (hm : t.mem = s.mem) (hk : t.memMap = s.memMap)
    (hh : t.history = s.history) (addr : Word) (v : Byte) :
    t.writeByte addr v = { t with mem := (s.writeByte addr v).mem, history := (s.writeByte addr v).history } := by
  have hkind := State.kindAt_congr hk addr
  unfold State.writeByte
  rw [hkind]
  split <;> simp [State.logEvent, ← hm, ← hh]

/-- A byte write leaves what every other address holds. -/
theorem State.peek_writeByte_other {addr other : Word} (h : other ≠ addr) (v : Byte) (s : State) :
    (s.writeByte addr v).peek other = s.peek other := by
  rcases s.writeByte_cases addr v with ⟨-, hw⟩ | ⟨-, hw⟩ | ⟨-, hw⟩ <;> rw [hw]
  · exact Memory.read_write_other (fun he => h (BitVec.eq_of_toNat_eq he)) v s.mem
  · rfl

/-- A byte write to RAM is what its address then holds. -/
theorem State.peek_writeByte_same {s : State} {addr : Word} (hw : Memory.wf s.mem = true) (h : s.kindAt addr = .ram)
    (v : Byte) : (s.writeByte addr v).peek addr = v := by
  rcases s.writeByte_cases addr v with ⟨-, e⟩ | ⟨h', -⟩ | ⟨h', -⟩
  · rw [e]
    exact Memory.read_write_same hw addr.toNat v
  · rcases h' with h' | h' <;> simp [h'] at h
  · simp [h'] at h

/-- A byte write to what is not RAM leaves memory. -/
theorem State.writeByte_mem_of_not_ram {s : State} {addr : Word} (h : s.kindAt addr ≠ .ram) (v : Byte) :
    (s.writeByte addr v).mem = s.mem := by
  rcases s.writeByte_cases addr v with ⟨h', -⟩ | ⟨-, e⟩ | ⟨-, e⟩
  · exact absurd h' h
  · rw [e]
  · rw [e]

/-- A byte write keeps memory canonical. -/
theorem State.writeByte_wf {s : State} (h : Memory.wf s.mem = true) (addr : Word) (v : Byte) :
    Memory.wf (s.writeByte addr v).mem = true := by
  rcases s.writeByte_cases addr v with ⟨-, e⟩ | ⟨-, e⟩ | ⟨-, e⟩ <;> rw [e]
  · exact Memory.wf_write h addr v
  · exact h
  · exact h

/-- A byte write leaves what every address that is not RAM holds. -/
theorem State.peek_writeByte_not_ram {s : State} {other : Word} (h : s.kindAt other ≠ .ram) (addr : Word) (v : Byte) :
    (s.writeByte addr v).peek other = s.peek other := by
  by_cases he : other = addr
  · subst he
    exact State.peek_congr (State.writeByte_mem_of_not_ram h v) other
  · exact State.peek_writeByte_other he v s

/-- A word write keeps memory canonical. -/
theorem State.writeWord_wf {s : State} (h : Memory.wf s.mem = true) (addr w : Word) :
    Memory.wf (s.writeWord addr w).mem = true :=
  State.writeByte_wf (State.writeByte_wf h addr _) (addr + 1) _

/-- The stack's word store keeps memory canonical. -/
theorem State.writeWordHighFirst_wf {s : State} (h : Memory.wf s.mem = true) (addr w : Word) :
    Memory.wf (s.writeWordHighFirst addr w).mem = true :=
  State.writeByte_wf (State.writeByte_wf h (addr + 1) _) addr _

/-- A push keeps memory canonical. -/
theorem State.push16_wf {s : State} (h : Memory.wf s.mem = true) (w : Word) : Memory.wf (s.push16 w).mem = true :=
  State.writeWordHighFirst_wf (s := { s with sp := s.sp - 2 }) h (s.sp - 2) w

/-- A word write leaves what every address that is not RAM holds. -/
theorem State.peek_writeWord_not_ram {s : State} {other : Word} (h : s.kindAt other ≠ .ram) (addr w : Word) :
    (s.writeWord addr w).peek other = s.peek other := by
  unfold State.writeWord
  rw [State.peek_writeByte_not_ram, State.peek_writeByte_not_ram h]
  rwa [State.kindAt_congr (State.writeByte_memMap addr (loByte w) s)]

/-- The stack's word store leaves what every address that is not RAM holds. -/
theorem State.peek_writeWordHighFirst_not_ram {s : State} {other : Word} (h : s.kindAt other ≠ .ram) (addr w : Word) :
    (s.writeWordHighFirst addr w).peek other = s.peek other := by
  unfold State.writeWordHighFirst
  rw [State.peek_writeByte_not_ram, State.peek_writeByte_not_ram h]
  rwa [State.kindAt_congr (State.writeByte_memMap (addr + 1) (hiByte w) s)]

/-- A push leaves what every address that is not RAM holds. -/
theorem State.peek_push16_not_ram {s : State} {other : Word} (h : s.kindAt other ≠ .ram) (w : Word) :
    (s.push16 w).peek other = s.peek other :=
  State.peek_writeWordHighFirst_not_ram (s := { s with sp := s.sp - 2 }) h (s.sp - 2) w

/-! ### Operands (rules R25, R115, R116) -/

/-- Reading an operand changes nothing but the history. -/
theorem State.read8_state (o : Operand8) (s : State) :
    (s.read8 o).2 = { s with history := (s.read8 o).2.history } := by
  cases o with
  | imm n => rfl
  | place p => cases p <;> first | rfl | exact State.readByte_state _ s

/-- Reading a located operand changes nothing but the history. -/
theorem State.readLocation_state (loc : Location8) (s : State) :
    (s.readLocation loc).2 = { s with history := (s.readLocation loc).2.history } := by
  cases loc with
  | reg r => rfl
  | mem addr => exact State.readByte_state addr s

/-- Writing a located operand keeps memory canonical. -/
theorem State.writeLocation_wf {s : State} (h : Memory.wf s.mem = true) (loc : Location8) (v : Byte) :
    Memory.wf (s.writeLocation loc v).mem = true := by
  cases loc with
  | reg r => simpa [State.writeLocation] using h
  | mem addr => exact State.writeByte_wf h addr v

/-- Writing a located operand leaves what every address that is not RAM holds. -/
theorem State.peek_writeLocation_not_ram {s : State} {other : Word} (h : s.kindAt other ≠ .ram) (loc : Location8)
    (v : Byte) : (s.writeLocation loc v).peek other = s.peek other := by
  cases loc with
  | reg r => exact State.peek_congr (State.setReg8_mem r v s) other
  | mem addr => exact State.peek_writeByte_not_ram h addr v

/-- What changes nothing but the history is the state with its own history. -/
theorem State.only_history {s t : State} {past : List BusEvent} (h : t = { s with history := past }) :
    t = { s with history := t.history } := by
  subst h
  rfl

/-- Fetching bytes changes nothing but the history. -/
theorem State.readBytes_state (count : Nat) (addr : Word) (s : State) :
    ∃ past, (State.readBytes count addr s).2 = { s with history := past } := by
  induction count generalizing addr s with
  | zero => exact ⟨s.history, rfl⟩
  | succ count ih =>
    obtain ⟨past, h⟩ := ih (addr + 1) (s.readByte addr).2
    refine ⟨past, ?_⟩
    show (State.readBytes count (addr + 1) (s.readByte addr).2).2 = _
    rw [h]
    apply State.ext <;> simp

/-- The fetch of an instruction whose first byte says that it is alone. -/
theorem State.fetch_of_one_byte {s : State} (h : isOneByte (s.readByte s.pc).1 = true) :
    s.fetch = ([(s.readByte s.pc).1], (s.readByte s.pc).2) := if_pos h

/-- The fetch of a longer instruction: the first two bytes, then as many as they say. -/
theorem State.fetch_of_longer {s : State} (h : isOneByte (s.readByte s.pc).1 = false) :
    s.fetch =
      let b0 := s.readByte s.pc
      let b1 := b0.2.readByte (s.pc + 1)
      let rest := State.readBytes (lengthFromBytes b0.1 b1.1 - 2) (s.pc + 2) b1.2
      (b0.1 :: b1.1 :: rest.1, rest.2) := if_neg (by simp [h])

/-- Fetching an instruction changes nothing but the history. -/
theorem State.fetch_state (s : State) : s.fetch.2 = { s with history := s.fetch.2.history } := by
  by_cases h : isOneByte (s.readByte s.pc).1 = true
  · rw [State.fetch_of_one_byte h]
    exact State.readByte_state s.pc s
  · rw [State.fetch_of_longer (by simpa using h)]
    obtain ⟨past, hp⟩ := State.readBytes_state
      (lengthFromBytes (s.readByte s.pc).1 ((s.readByte s.pc).2.readByte (s.pc + 1)).1 - 2) (s.pc + 2)
      ((s.readByte s.pc).2.readByte (s.pc + 1)).2
    refine State.only_history (past := past) (hp.trans ?_)
    apply State.ext <;> simp

/-! ### Interrupts (rules R404 to R408) -/

/-- Everything the acceptance of a maskable interrupt can do. -/
theorem State.acceptInt_cases (data : Byte) (s : State) :
    (s.im = .mode1 ∧ s.acceptInt data = .next s.acceptMode1) ∨
      (s.im = .mode2 ∧ s.acceptInt data = .next (s.acceptMode2 data)) ∨
      (s.im = .mode0 ∧ isRestartOpcode data = true ∧ s.acceptInt data =
        .next (State.enterHandler ((data &&& 0x38).setWidth 16) { s with iff2 := false })) ∨
      (s.im = .mode0 ∧ isRestartOpcode data = false ∧ s.acceptInt data = .refused (.modeZeroInstruction data)) := by
  unfold State.acceptInt State.acceptMode0
  split
  · by_cases h : isRestartOpcode data = true <;> simp_all
  · simp_all
  · simp_all

/-- What entering a handler does to everything but memory and the history. -/
theorem State.enterHandler_state (handler : Word) (s : State) :
    s.enterHandler handler =
      { s with
        halted := false
        iff1 := false
        r := refreshAfter s.r 1
        sp := s.sp - 2
        pc := handler
        mem := (s.enterHandler handler).mem
        history := (s.enterHandler handler).history } := by
  ext1 <;> simp [State.enterHandler]

/-- Entering a handler keeps memory canonical. -/
theorem State.enterHandler_wf {s : State} (h : Memory.wf s.mem = true) (handler : Word) :
    Memory.wf (s.enterHandler handler).mem = true :=
  State.push16_wf (s := s.beginInterrupt) h s.pc

end Sys2Proof.Machine
end

