-- ==== Sys2Proof/Laws/Step.lean ====
section
/-! SUPPORT. Everything a step can do, said once: the five outcomes of a boundary with the tests that lead to each
(60_exceptions.md rule R402), and the three of running an instruction. -/

namespace Sys2Proof.Machine

/-- The boundary of a step, passed and with the `EI` shadow consumed: the state that the outcome starts from. -/
def State.pastBoundary (s : State) : State := { s.samplePins with eiShadow := false }

/-- Everything a step can do. -/
theorem step_cases (s : State) :
    (s.nextPins.reset = true ∧ step s = .next s.samplePins.doReset) ∨
      (s.nextPins.reset = false ∧
        (((s.nmiPending || s.nextPins.nmiEdge) = true ∧ step s = .next (s.pastBoundary.acceptNmi.elapse nmiTStates)) ∨
          ((s.nmiPending || s.nextPins.nmiEdge) = false ∧
            (((s.nextPins.intLine && s.iff1 && !s.eiShadow) = true ∧
                step s = State.acceptInt s.nextPins.intData (s.pastBoundary.elapse (acceptanceTStates s.im))) ∨
              ((s.nextPins.intLine && s.iff1 && !s.eiShadow) = false ∧
                ((s.halted = true ∧ step s = .next ((s.pastBoundary.countFetches 1).elapse idleTStates)) ∨
                  (s.halted = false ∧ step s = s.pastBoundary.runInstruction))))))) := by
  have hstep : step s = s.boundary := rfl
  rw [hstep]
  unfold State.boundary State.afterReset
  by_cases hr : s.nextPins.reset = true
  · exact .inl ⟨hr, if_pos hr⟩
  · refine .inr ⟨by simpa using hr, ?_⟩
    rw [if_neg hr]
    by_cases hn : (s.nmiPending || s.nextPins.nmiEdge) = true
    · exact .inl ⟨hn, if_pos hn⟩
    · refine .inr ⟨by simpa using hn, ?_⟩
      by_cases hi : (s.nextPins.intLine && s.iff1 && !s.eiShadow) = true
      · exact .inl ⟨hi, (if_neg hn).trans (if_pos hi)⟩
      · refine .inr ⟨by simpa using hi, ?_⟩
        by_cases hh : s.halted = true
        · exact .inl ⟨hh, (if_neg hn).trans ((if_neg hi).trans (if_pos hh))⟩
        · exact .inr ⟨by simpa using hh, (if_neg hn).trans ((if_neg hi).trans (if_neg hh))⟩

/-- Everything that running an instruction can do. -/
theorem State.runInstruction_cases (s : State) :
    (∃ i rest, decode s.fetch.1 = .ok (i, rest) ∧
      s.runInstruction = State.execTimed i (s.fetch.2.countFetches (fetchCount s.fetch.1))) ∨
    (∃ error, decode s.fetch.1 = .error error ∧
      s.runInstruction = .refused (.unassignedEncoding error s.pc s.fetch.1)) := by
  cases h : decode s.fetch.1 with
  | ok found => exact .inl ⟨found.1, found.2, rfl, by simp only [State.runInstruction, h]⟩
  | error error => exact .inr ⟨error, rfl, by simp only [State.runInstruction, h]⟩

/-- An instruction that ends in a next state, with its T-states counted. -/
theorem State.execTimed_of_next {i : Instr} {s t : State} (h : exec i s = .next t) :
    State.execTimed i s = .next (t.elapse (instrTStates i t)) := by
  simp only [State.execTimed, h]

/-- What a timed execution that ends in a next state was. -/
theorem State.execTimed_next {i : Instr} {s t : State} (h : State.execTimed i s = .next t) :
    ∃ u, exec i s = .next u ∧ t = u.elapse (instrTStates i u) := by
  unfold State.execTimed at h
  split at h
  · exact ⟨_, ‹_›, by cases h; rfl⟩
  · cases h
  · cases h

/-- The bytes of the instruction depend on what memory the fetch finds: a fetch from RAM or ROM is memory's bytes. -/
theorem State.readBytes_of_held {s : State} {count : Nat} {addr : Word}
    (h : ∀ k < count, s.kindAt (addr + BitVec.ofNat 16 k) = .ram ∨ s.kindAt (addr + BitVec.ofNat 16 k) = .rom) :
    State.readBytes count addr s = ((List.range count).map fun k => s.peek (addr + BitVec.ofNat 16 k), s) := by
  induction count generalizing addr with
  | zero => rfl
  | succ count ih =>
    have h0 : s.readByte addr = (s.peek addr, s) := State.readByte_of_held (by simpa using h 0 (by omega))
    have hk : ∀ k : Nat, addr + BitVec.ofNat 16 (k + 1) = addr + 1 + BitVec.ofNat 16 k := fun k => by
      rw [Nat.add_comm k 1, BitVec.ofNat_add, BitVec.add_assoc]
      rfl
    have hrest := ih (addr := addr + 1) fun k hlt => by
      have := h (k + 1) (by omega)
      rwa [hk k] at this
    show ((s.readByte addr).1 :: (State.readBytes count (addr + 1) (s.readByte addr).2).1,
      (State.readBytes count (addr + 1) (s.readByte addr).2).2) = _
    rw [h0, hrest, List.range_succ_eq_map, List.map_cons, List.map_map]
    simp only [BitVec.ofNat_eq_ofNat, BitVec.add_zero, Prod.mk.injEq, List.cons.injEq, true_and, and_true]
    exact List.map_congr_left fun k _ => congrArg s.peek (hk k).symm

end Sys2Proof.Machine
end

