-- ==== Sys2Proof/Laws/Claims.lean ====
section
/-! SUPPORT. The words of Sys2Proof/Safety.lean against the operations of Sys2Proof/Machine/: the same addresses, the
same reads, and what the stores leave. -/

namespace Sys2Proof.Machine

/-! ### Steps -/

/-- Past a boundary that shows no NMI, the instruction is fetched at the state the claims name. -/
theorem State.pastBoundary_of_no_nmi {s : State} (h : (s.nmiPending || s.nextPins.nmiEdge) = false) :
    s.pastBoundary = s.atFetch := by
  obtain ⟨hn, he⟩ := Bool.or_eq_false_iff.1 h
  simp [State.pastBoundary, State.samplePins, State.atFetch, hn, he]

/-- A step at which nothing comes first runs the instruction at `PC`. -/
theorem step_of_runsNext {s : State} (h : s.RunsNext) : step s = s.atFetch.runInstruction := by
  have hnmi : (s.nmiPending || s.nextPins.nmiEdge) = false := by simp [h.noNmi, h.noEdge]
  have hint : (s.nextPins.intLine && s.iff1 && !s.eiShadow) = false := by
    rcases h.noInt with e | e | e <;> simp [e]
  rcases step_cases s with ⟨hr, -⟩ | ⟨-, ⟨hn, -⟩ | ⟨-, ⟨hi, -⟩ | ⟨-, ⟨hh, -⟩ | ⟨-, e⟩⟩⟩⟩
  · simp [h.noReset] at hr
  · simp [hnmi] at hn
  · simp [hint] at hi
  · simp [h.running] at hh
  · rw [e, State.pastBoundary_of_no_nmi hnmi]

/-- The tests that lead a step to the instruction at `PC` are those of `State.RunsNext`. -/
theorem State.runsNext_of_tests {s : State} (hr : s.nextPins.reset = false)
    (hn : (s.nmiPending || s.nextPins.nmiEdge) = false) (hi : (s.nextPins.intLine && s.iff1 && !s.eiShadow) = false)
    (hh : s.halted = false) : s.RunsNext where
  noReset := hr
  noNmi := (Bool.or_eq_false_iff.1 hn).1
  noEdge := (Bool.or_eq_false_iff.1 hn).2
  noInt := by
    cases h1 : s.nextPins.intLine <;> cases h2 : s.iff1 <;> simp_all
  running := hh

/-! ### Addresses -/

/-- The address after an instruction. -/
theorem State.past_eq (s : State) (bytes : List Byte) : s.past bytes = s.pc + BitVec.ofNat 16 bytes.length := by
  rw [State.past, BitVec.ofNat_add, BitVec.ofNat_toNat, BitVec.setWidth_eq]

/-- The effective address as the claims compute it is the one the meanings compute. -/
theorem indexed_eq_displaced (base : Word) (d : Byte) : indexed base d = displaced base d := by
  have h : BitVec.ofInt 16 ((base.toNat : Int) + d.toInt) = base + d.signExtend 16 := by
    rw [BitVec.ofInt_add, BitVec.ofInt_natCast, BitVec.ofNat_toNat, BitVec.setWidth_eq]
    rfl
  exact h

/-- One place up. -/
theorem moved_one (w : Word) : moved w 1 = w + 1 := by
  rw [moved, BitVec.ofInt_add, BitVec.ofInt_natCast, BitVec.ofNat_toNat, BitVec.setWidth_eq]
  rfl

/-- One place down. -/
theorem moved_neg_one (w : Word) : moved w (-1) = w - 1 := by
  rw [moved, BitVec.ofInt_add, BitVec.ofInt_natCast, BitVec.ofNat_toNat, BitVec.setWidth_eq, BitVec.sub_eq_add_neg]
  rfl

/-- A port from its two bytes. -/
theorem portOf_eq (high low : Byte) : portOf high low = joinBytes high low :=
  BitVec.eq_of_toNat_eq (by
    have := high.isLt
    have := low.isLt
    rw [joinBytes_toNat, portOf, BitVec.toNat_ofNat]
    omega)

/-- The refresh counter as the claims count it is the one the step counts. -/
theorem counted_eq (r : Byte) (n : Nat) : counted r n = refreshAfter r n := by
  have hlow : ((r + BitVec.ofNat 8 n) &&& 0x7F#8).toNat = (r.toNat + n) % 128 := by
    have h := Nat.and_two_pow_sub_one_eq_mod ((r.toNat + n) % 256) 7
    simp only [BitVec.toNat_and, BitVec.toNat_add, BitVec.toNat_ofNat]
    norm_num at h ⊢
    rw [h]
  have hhigh : ∀ x : BitVec 8, (x &&& 0x80#8).toNat = x.toNat / 128 * 128 := by decide
  have hor : ∀ x y : BitVec 8, (x &&& 0x80#8) ||| (y &&& 0x7F#8) = (x &&& 0x80#8) + (y &&& 0x7F#8) := fun x y => by
    have h : (x &&& 0x80#8) &&& (y &&& 0x7F#8) = 0#8 := by
      apply BitVec.eq_of_getLsbD_eq
      intro k hk
      interval_cases k <;> simp
    exact (BitVec.add_eq_or_of_and_eq_zero _ _ h).symm
  apply BitVec.eq_of_toNat_eq
  rw [refreshAfter]
  erw [hor]
  rw [BitVec.toNat_add, hlow, hhigh, counted, BitVec.toNat_ofNat]

/-! ### Reads -/

/-- An operand that can be written, read. -/
theorem State.placeRead_eq (s : State) (p : Place8) :
    s.placeRead p = ((s.readLocation (s.locate p)).1, (s.readLocation (s.locate p)).2.history) := by
  cases p with
  | reg r => rfl
  | atHL => rfl
  | atIX d => simp only [State.placeRead, indexed_eq_displaced]; rfl
  | atIY d => simp only [State.placeRead, indexed_eq_displaced]; rfl

/-- A source operand, read. -/
theorem State.operandRead_eq (s : State) (o : Operand8) :
    s.operandRead o = ((s.read8 o).1, (s.read8 o).2.history) := by
  cases o with
  | imm n => rfl
  | place p => exact s.placeRead_eq p

/-- The state after a source operand is read. -/
theorem State.read8_of_operandRead (s : State) (o : Operand8) :
    s.read8 o = ((s.operandRead o).1, { s with history := (s.operandRead o).2 }) := by
  rw [State.operandRead_eq]
  exact Prod.ext rfl (s.read8_state o)

/-- A word, read. -/
theorem State.readWord_of_wordAt (s : State) (addr : Word) :
    s.readWord addr = ((s.wordAt addr).1, { s with history := (s.wordAt addr).2 }) := by
  have hj : ∀ lo hi : Byte, joinBytes hi lo = BitVec.ofNat 16 (lo.toNat + 256 * hi.toNat) := fun lo hi =>
    BitVec.eq_of_toNat_eq (by
      have := hi.isLt
      have := lo.isLt
      rw [joinBytes_toNat, BitVec.toNat_ofNat]
      omega)
  have hs := State.readByte_state addr s
  refine Prod.ext ?_ ?_
  · show joinBytes ((s.readByte addr).2.readByte (addr + 1)).1 (s.readByte addr).1 = _
    rw [hj, hs]
    rfl
  · rw [State.readWord_state]
    show ({ s with history := ((s.readByte addr).2.readByte (addr + 1)).2.history } : State) = _
    rw [hs]
    rfl

/-! ### Stores -/

/-- What a byte write adds to the history. -/
theorem State.writeByte_history_eq (addr : Word) (v : Byte) (s : State) :
    (s.writeByte addr v).history = s.handed addr v ++ s.history := by
  rcases s.writeByte_cases addr v with ⟨h, e⟩ | ⟨h, e⟩ | ⟨h, e⟩
  · simp [e, State.handed, h]
  · rcases h with h | h <;> simp [e, State.handed, h]
  · simp [e, State.handed, h]

/-- What is handed depends on the memory map alone. -/
theorem State.handed_congr {s t : State} (h : t.memMap = s.memMap) (addr : Word) (v : Byte) :
    t.handed addr v = s.handed addr v := by
  simp only [State.handed, State.kindAt_congr h]

/-- A byte write stores its byte. -/
theorem State.writeByte_stores {s : State} (hw : Memory.wf s.mem = true) (addr : Word) (v : Byte) :
    StoresByte s (s.writeByte addr v) addr v :=
  ⟨⟨fun h => State.peek_writeByte_same hw h v, fun h => State.peek_writeByte_not_ram h addr v⟩,
    fun _ h => State.peek_writeByte_other h v s⟩

/-- What is stored depends on memory and the memory map alone. -/
theorem StoresByte.congr {s t u w : State} {addr : Word} {v : Byte} (h : StoresByte s t addr v)
    (hs : u.mem = s.mem) (hk : u.memMap = s.memMap) (ht : w.mem = t.mem) : StoresByte u w addr v := by
  have hkind := State.kindAt_congr hk addr
  refine ⟨⟨fun hr => ?_, fun hr => ?_⟩, fun other hne => ?_⟩
  · rw [State.peek_congr ht]
    exact h.1.1 (hkind ▸ hr)
  · rw [State.peek_congr ht, State.peek_congr hs]
    exact h.1.2 (hkind ▸ hr)
  · rw [State.peek_congr ht, State.peek_congr hs]
    exact h.2 other hne

/-- What is stored depends on memory and the memory map alone. -/
theorem StoresWord.congr {s t u w : State} {addr v : Word} (h : StoresWord s t addr v)
    (hs : u.mem = s.mem) (hk : u.memMap = s.memMap) (ht : w.mem = t.mem) : StoresWord u w addr v := by
  have hkind := State.kindAt_congr hk
  refine ⟨⟨fun hr => ?_, fun hr => ?_⟩, ⟨fun hr => ?_, fun hr => ?_⟩, fun other hne hne' => ?_⟩
  · rw [State.peek_congr ht]
    exact h.1.1 (hkind addr ▸ hr)
  · rw [State.peek_congr ht, State.peek_congr hs]
    exact h.1.2 (hkind addr ▸ hr)
  · rw [State.peek_congr ht]
    exact h.2.1.1 (hkind _ ▸ hr)
  · rw [State.peek_congr ht, State.peek_congr hs]
    exact h.2.1.2 (hkind _ ▸ hr)
  · rw [State.peek_congr ht, State.peek_congr hs]
    exact h.2.2 other hne hne'

/-- Two byte writes at an address and the next store a word, whichever comes first. -/
theorem State.two_writes_store {s : State} (hw : Memory.wf s.mem = true) (addr w : Word) :
    StoresWord s (s.writeWord addr w) addr w ∧ StoresWord s (s.writeWordHighFirst addr w) addr w := by
  have hne : addr + 1 ≠ addr := by
    intro h
    have := congrArg BitVec.toNat h
    have hlt := addr.isLt
    rw [BitVec.toNat_add] at this
    simp at this
    omega
  have hmap := fun (a : Word) (v : Byte) => State.kindAt_congr (State.writeByte_memMap a v s)
  refine ⟨⟨⟨fun h => ?_, fun h => ?_⟩, ⟨fun h => ?_, fun h => ?_⟩, fun other h1 h2 => ?_⟩,
    ⟨⟨fun h => ?_, fun h => ?_⟩, ⟨fun h => ?_, fun h => ?_⟩, fun other h1 h2 => ?_⟩⟩
  · exact (State.peek_writeByte_other (Ne.symm hne) _ _).trans (State.peek_writeByte_same hw h _)
  · exact State.peek_writeWord_not_ram h addr w
  · exact State.peek_writeByte_same (State.writeByte_wf hw addr _) ((hmap addr _ _).trans h) _
  · exact State.peek_writeWord_not_ram h addr w
  · exact (State.peek_writeByte_other h2 _ _).trans (State.peek_writeByte_other h1 _ _)
  · exact State.peek_writeByte_same (State.writeByte_wf hw (addr + 1) _) ((hmap (addr + 1) _ _).trans h) _
  · exact State.peek_writeWordHighFirst_not_ram h addr w
  · exact (State.peek_writeByte_other hne _ _).trans (State.peek_writeByte_same hw h _)
  · exact State.peek_writeWordHighFirst_not_ram h addr w
  · exact (State.peek_writeByte_other h1 _ _).trans (State.peek_writeByte_other h2 _ _)

/-- What the stack's word store adds to the history. -/
theorem State.writeWordHighFirst_history_eq (addr w : Word) (s : State) :
    (s.writeWordHighFirst addr w).history =
      s.handed addr (loByte w) ++ s.handed (addr + 1) (hiByte w) ++ s.history := by
  unfold State.writeWordHighFirst
  rw [State.writeByte_history_eq, State.writeByte_history_eq, State.handed_congr (State.writeByte_memMap _ _ s),
    List.append_assoc]

/-- What the other word store adds to the history. -/
theorem State.writeWord_history_eq (addr w : Word) (s : State) :
    (s.writeWord addr w).history =
      s.handed (addr + 1) (hiByte w) ++ s.handed addr (loByte w) ++ s.history := by
  unfold State.writeWord
  rw [State.writeByte_history_eq, State.writeByte_history_eq, State.handed_congr (State.writeByte_memMap _ _ s),
    List.append_assoc]

/-- A push, and control moved: what the claims call it. -/
theorem State.push16_pushes {s : State} (hw : Memory.wf s.mem = true) (w pc : Word) :
    Pushes s ((s.push16 w).goto pc) w pc := by
  have hsp : s.sp - 2 + 1 = s.sp - 1 := by
    rw [BitVec.sub_eq_add_neg, BitVec.sub_eq_add_neg, BitVec.add_assoc]
    rfl
  have hh : (s.push16 w).history =
      s.handed (s.sp - 2) (loByte w) ++ s.handed (s.sp - 1) (hiByte w) ++ s.history := by
    rw [← hsp]
    exact State.writeWordHighFirst_history_eq (s.sp - 2) w { s with sp := s.sp - 2 }
  refine ⟨?_, ?_⟩
  · apply State.ext <;> simp [hh]
  · exact (State.two_writes_store (s := { s with sp := s.sp - 2 }) hw (s.sp - 2) w).2.congr rfl rfl rfl

/-- An operand that was located, read and written: what the claims call it. -/
theorem State.writeLocation_replaces {s : State} (hw : Memory.wf s.mem = true) (p : Place8) (v : Byte) (f : Flags)
    (draws : Nat) (pc : Word) :
    Replaces s { (s.readLocation (s.locate p)).2.writeLocation (s.locate p) v with f := f, draws := draws, pc := pc }
      p v f draws pc := by
  have mem : ∀ addr : Word, ReplacesAt s
      { (s.readByte addr).2.writeByte addr v with f := f, draws := draws, pc := pc } addr v f draws pc := fun addr => by
    refine ⟨?_, ?_, ?_⟩
    · apply State.ext <;> simp
    · exact (State.writeByte_stores (s := (s.readByte addr).2) (by simpa using hw) addr v).congr (by simp) (by simp) rfl
    · show ((s.readByte addr).2.writeByte addr v).history = _
      rw [State.writeByte_history_eq, State.handed_congr (State.readByte_memMap addr s)]
      rfl
  cases p with
  | reg r => cases r <;> rfl
  | atHL => exact mem _
  | atIX d =>
    have h := mem (indexed s.ix d)
    rw [indexed_eq_displaced] at h
    simp only [Replaces, indexed_eq_displaced]
    exact h
  | atIY d =>
    have h := mem (indexed s.iy d)
    rw [indexed_eq_displaced] at h
    simp only [Replaces, indexed_eq_displaced]
    exact h

end Sys2Proof.Machine
end

