-- ==== Sys2Proof/Laws/Meanings.lean ====
section
/-! SUPPORT. What no ordinary instruction touches, said once for each operation that the meanings are written with: the
shadow set, the interrupt state, the latches, the memory map, the schedule of requests, and every byte that is not
RAM; and memory stays canonical. The instructions that do touch one of these (`EX AF,AF'`, `EXX`, `DI`, `EI`, `HALT`,
`IM`, `RETI`, `RETN`) are not here. -/

namespace Sys2Proof.Machine

/-- From `s` to `t` none of the state that only a few instructions reach has changed. -/
structure State.Untouched (s t : State) : Prop where
  aShadow : t.aShadow = s.aShadow
  fShadow : t.fShadow = s.fShadow
  bShadow : t.bShadow = s.bShadow
  cShadow : t.cShadow = s.cShadow
  dShadow : t.dShadow = s.dShadow
  eShadow : t.eShadow = s.eShadow
  hShadow : t.hShadow = s.hShadow
  lShadow : t.lShadow = s.lShadow
  im : t.im = s.im
  iff1 : t.iff1 = s.iff1
  iff2 : t.iff2 = s.iff2
  halted : t.halted = s.halted
  eiShadow : t.eiShadow = s.eiShadow
  nmiPending : t.nmiPending = s.nmiPending
  memMap : t.memMap = s.memMap
  pins : t.pins = s.pins
  canonical : Memory.wf s.mem = true → Memory.wf t.mem = true
  readOnly : ∀ addr, s.kindAt addr ≠ .ram → t.peek addr = s.peek addr

namespace State.Untouched

theorem trans {s t u : State} (h : s.Untouched t) (k : t.Untouched u) : s.Untouched u where
  aShadow := k.aShadow.trans h.aShadow
  fShadow := k.fShadow.trans h.fShadow
  bShadow := k.bShadow.trans h.bShadow
  cShadow := k.cShadow.trans h.cShadow
  dShadow := k.dShadow.trans h.dShadow
  eShadow := k.eShadow.trans h.eShadow
  hShadow := k.hShadow.trans h.hShadow
  lShadow := k.lShadow.trans h.lShadow
  im := k.im.trans h.im
  iff1 := k.iff1.trans h.iff1
  iff2 := k.iff2.trans h.iff2
  halted := k.halted.trans h.halted
  eiShadow := k.eiShadow.trans h.eiShadow
  nmiPending := k.nmiPending.trans h.nmiPending
  memMap := k.memMap.trans h.memMap
  pins := k.pins.trans h.pins
  canonical := fun hw => k.canonical (h.canonical hw)
  readOnly := fun addr hk => (k.readOnly addr (by rwa [State.kindAt_congr h.memMap])).trans (h.readOnly addr hk)

/-- An operation that leaves memory too. -/
theorem of_mem {s t : State} (hm : t.mem = s.mem)
    (h : (t.aShadow, t.fShadow, t.bShadow, t.cShadow, t.dShadow, t.eShadow, t.hShadow, t.lShadow) =
      (s.aShadow, s.fShadow, s.bShadow, s.cShadow, s.dShadow, s.eShadow, s.hShadow, s.lShadow))
    (k : (t.im, t.iff1, t.iff2, t.halted, t.eiShadow, t.nmiPending, t.memMap, t.pins) =
      (s.im, s.iff1, s.iff2, s.halted, s.eiShadow, s.nmiPending, s.memMap, s.pins)) : s.Untouched t := by
  simp only [Prod.mk.injEq] at h k
  obtain ⟨h1, h2, h3, h4, h5, h6, h7, h8⟩ := h
  obtain ⟨k1, k2, k3, k4, k5, k6, k7, k8⟩ := k
  exact ⟨h1, h2, h3, h4, h5, h6, h7, h8, k1, k2, k3, k4, k5, k6, k7, k8, fun hw => hm ▸ hw,
    fun addr _ => State.peek_congr hm addr⟩

end State.Untouched

/-! ### The shared operations -/

theorem State.refl_untouched (s : State) : s.Untouched s := .of_mem rfl rfl rfl

theorem State.advance_untouched (len : Nat) (s : State) : s.Untouched (s.advance len) := .of_mem rfl rfl rfl

theorem State.goto_untouched (target : Word) (s : State) : s.Untouched (s.goto target) := .of_mem rfl rfl rfl

theorem State.writeFlags_untouched (upd : FlagUpdate) (s : State) : s.Untouched (s.writeFlags upd) := .of_mem rfl rfl rfl

theorem State.setA_untouched (v : Byte) (s : State) : s.Untouched { s with a := v } := .of_mem rfl rfl rfl

theorem State.setB_untouched (v : Byte) (s : State) : s.Untouched { s with b := v } := .of_mem rfl rfl rfl

theorem State.setSP_untouched (w : Word) (s : State) : s.Untouched { s with sp := w } := .of_mem rfl rfl rfl

theorem State.setBC_untouched (w : Word) (s : State) : s.Untouched (s.setBC w) := .of_mem rfl rfl rfl

theorem State.setDE_untouched (w : Word) (s : State) : s.Untouched (s.setDE w) := .of_mem rfl rfl rfl

theorem State.setHL_untouched (w : Word) (s : State) : s.Untouched (s.setHL w) := .of_mem rfl rfl rfl

theorem State.setReg8_untouched (r : Reg8) (v : Byte) (s : State) : s.Untouched (s.setReg8 r v) :=
  .of_mem (by simp) (by simp) (by simp)

theorem State.setReg16_untouched (r : Reg16) (w : Word) (s : State) : s.Untouched (s.setReg16 r w) :=
  .of_mem (by simp) (by simp) (by simp)

theorem State.readByte_untouched (addr : Word) (s : State) : s.Untouched (s.readByte addr).2 :=
  .of_mem (by simp) (by simp) (by simp)

theorem State.readWord_untouched (addr : Word) (s : State) : s.Untouched (s.readWord addr).2 :=
  .of_mem (by simp) (by simp) (by simp)

theorem State.readLocation_untouched (loc : Location8) (s : State) : s.Untouched (s.readLocation loc).2 :=
  .of_mem (by simp) (by simp) (by simp)

theorem State.read8_untouched (o : Operand8) (s : State) : s.Untouched (s.read8 o).2 :=
  .of_mem (by simp) (by simp) (by simp)

theorem State.pop16_untouched (s : State) : s.Untouched s.pop16.2 := .of_mem (by simp) (by simp) (by simp)

theorem State.ioRead_untouched (port : Word) (s : State) : s.Untouched (s.ioRead port).2 := .of_mem rfl rfl rfl

theorem State.ioWrite_untouched (port : Word) (v : Byte) (s : State) : s.Untouched (s.ioWrite port v) :=
  .of_mem rfl rfl rfl

theorem State.writeByte_untouched (addr : Word) (v : Byte) (s : State) : s.Untouched (s.writeByte addr v) := by
  constructor
  case canonical => exact fun hw => State.writeByte_wf hw addr v
  case readOnly => exact fun other hk => State.peek_writeByte_not_ram hk addr v
  all_goals simp

theorem State.writeWord_untouched (addr w : Word) (s : State) : s.Untouched (s.writeWord addr w) :=
  (s.writeByte_untouched addr _).trans (State.writeByte_untouched (addr + 1) _ _)

theorem State.writeWordHighFirst_untouched (addr w : Word) (s : State) : s.Untouched (s.writeWordHighFirst addr w) :=
  (s.writeByte_untouched (addr + 1) _).trans (State.writeByte_untouched addr _ _)

theorem State.push16_untouched (w : Word) (s : State) : s.Untouched (s.push16 w) :=
  (s.setSP_untouched (s.sp - 2)).trans (State.writeWordHighFirst_untouched (s.sp - 2) w _)

theorem State.writeLocation_untouched (loc : Location8) (v : Byte) (s : State) : s.Untouched (s.writeLocation loc v) := by
  cases loc with
  | reg r => exact s.setReg8_untouched r v
  | mem addr => exact s.writeByte_untouched addr v

/-! ### The operations of the families -/

theorem State.addA_untouched (o : Operand8) (len : Nat) (s : State) : s.Untouched (s.addA o len) :=
  (((s.read8_untouched o).trans (State.setA_untouched _ _)).trans (State.writeFlags_untouched _ _)).trans
    (State.advance_untouched len _)

theorem State.adcA_untouched (o : Operand8) (len : Nat) (s : State) : s.Untouched (s.adcA o len) :=
  (((s.read8_untouched o).trans (State.setA_untouched _ _)).trans (State.writeFlags_untouched _ _)).trans
    (State.advance_untouched len _)

theorem State.subA_untouched (o : Operand8) (len : Nat) (s : State) : s.Untouched (s.subA o len) :=
  (((s.read8_untouched o).trans (State.setA_untouched _ _)).trans (State.writeFlags_untouched _ _)).trans
    (State.advance_untouched len _)

theorem State.sbcA_untouched (o : Operand8) (len : Nat) (s : State) : s.Untouched (s.sbcA o len) :=
  (((s.read8_untouched o).trans (State.setA_untouched _ _)).trans (State.writeFlags_untouched _ _)).trans
    (State.advance_untouched len _)

theorem State.cpA_untouched (o : Operand8) (len : Nat) (s : State) : s.Untouched (s.cpA o len) :=
  ((s.read8_untouched o).trans (State.writeFlags_untouched _ _)).trans (State.advance_untouched len _)

theorem State.andA_untouched (o : Operand8) (len : Nat) (s : State) : s.Untouched (s.andA o len) :=
  (((s.read8_untouched o).trans (State.setA_untouched _ _)).trans (State.writeFlags_untouched _ _)).trans
    (State.advance_untouched len _)

theorem State.orA_untouched (o : Operand8) (len : Nat) (s : State) : s.Untouched (s.orA o len) :=
  (((s.read8_untouched o).trans (State.setA_untouched _ _)).trans (State.writeFlags_untouched _ _)).trans
    (State.advance_untouched len _)

theorem State.xorA_untouched (o : Operand8) (len : Nat) (s : State) : s.Untouched (s.xorA o len) :=
  (((s.read8_untouched o).trans (State.setA_untouched _ _)).trans (State.writeFlags_untouched _ _)).trans
    (State.advance_untouched len _)

theorem State.negA_untouched (s : State) : s.Untouched s.negA := .of_mem rfl rfl rfl

theorem State.decimalAdjust_untouched (s : State) : s.Untouched s.decimalAdjust := .of_mem rfl rfl rfl

theorem State.complementA_untouched (s : State) : s.Untouched s.complementA := .of_mem rfl rfl rfl

theorem State.invertCarry_untouched (s : State) : s.Untouched s.invertCarry := .of_mem rfl rfl rfl

theorem State.raiseCarry_untouched (s : State) : s.Untouched s.raiseCarry := .of_mem rfl rfl rfl

theorem State.rotateA_untouched (k : ShiftKind) (s : State) : s.Untouched (s.rotateA k) := .of_mem rfl rfl rfl

theorem State.incPlace_untouched (p : Place8) (len : Nat) (s : State) : s.Untouched (s.incPlace p len) :=
  (((s.readLocation_untouched (s.locate p)).trans (State.writeLocation_untouched _ _ _)).trans
    (State.writeFlags_untouched _ _)).trans (State.advance_untouched len _)

theorem State.decPlace_untouched (p : Place8) (len : Nat) (s : State) : s.Untouched (s.decPlace p len) :=
  (((s.readLocation_untouched (s.locate p)).trans (State.writeLocation_untouched _ _ _)).trans
    (State.writeFlags_untouched _ _)).trans (State.advance_untouched len _)

theorem State.shiftPlace_untouched (k : ShiftKind) (p : Place8) (len : Nat) (s : State) :
    s.Untouched (s.shiftPlace k p len) :=
  (((s.readLocation_untouched (s.locate p)).trans (State.writeLocation_untouched _ _ _)).trans
    (State.writeFlags_untouched _ _)).trans (State.advance_untouched len _)

theorem State.modifyPlace_untouched (g : Byte → Byte) (p : Place8) (len : Nat) (s : State) :
    s.Untouched (s.modifyPlace g p len) :=
  ((s.readLocation_untouched (s.locate p)).trans (State.writeLocation_untouched _ _ _)).trans
    (State.advance_untouched len _)

theorem State.testBit_untouched (b : Nat) (p : Place8) (len : Nat) (s : State) : s.Untouched (s.testBit b p len) :=
  ((s.readLocation_untouched (s.locate p)).trans (State.writeFlags_untouched _ _)).trans
    (State.advance_untouched len _)

theorem State.incWord_untouched (r : Reg16) (len : Nat) (s : State) : s.Untouched (s.incWord r len) :=
  (s.setReg16_untouched r _).trans (State.advance_untouched len _)

theorem State.decWord_untouched (r : Reg16) (len : Nat) (s : State) : s.Untouched (s.decWord r len) :=
  (s.setReg16_untouched r _).trans (State.advance_untouched len _)

theorem State.addWord_untouched (dst src : Reg16) (len : Nat) (s : State) : s.Untouched (s.addWord dst src len) :=
  ((s.setReg16_untouched dst _).trans (State.writeFlags_untouched _ _)).trans (State.advance_untouched len _)

theorem State.adcHL_untouched (src : Reg16) (s : State) : s.Untouched (s.adcHL src) := .of_mem rfl rfl rfl

theorem State.sbcHL_untouched (src : Reg16) (s : State) : s.Untouched (s.sbcHL src) := .of_mem rfl rfl rfl

theorem State.rotateDigits_untouched (newMem newA : (a m : Byte) → Byte) (s : State) :
    s.Untouched (s.rotateDigits newMem newA) :=
  ((((s.readByte_untouched s.hl).trans (State.writeByte_untouched s.hl _ _)).trans (State.setA_untouched _ _)).trans
    (State.writeFlags_untouched _ _)).trans (State.advance_untouched 2 _)

theorem State.ldReg_untouched (dst src : Reg8) (len : Nat) (s : State) : s.Untouched (s.ldReg dst src len) :=
  (s.setReg8_untouched dst _).trans (State.advance_untouched len _)

theorem State.ldImm_untouched (dst : Reg8) (n : Byte) (len : Nat) (s : State) : s.Untouched (s.ldImm dst n len) :=
  (s.setReg8_untouched dst n).trans (State.advance_untouched len _)

theorem State.ldFromMem_untouched (dst : Reg8) (addr : Word) (len : Nat) (s : State) :
    s.Untouched (s.ldFromMem dst addr len) :=
  ((s.readByte_untouched addr).trans (State.setReg8_untouched dst _ _)).trans (State.advance_untouched len _)

theorem State.ldToMem_untouched (addr : Word) (v : Byte) (len : Nat) (s : State) : s.Untouched (s.ldToMem addr v len) :=
  (s.writeByte_untouched addr v).trans (State.advance_untouched len _)

theorem State.ldWord_untouched (dst : Reg16) (w : Word) (len : Nat) (s : State) : s.Untouched (s.ldWord dst w len) :=
  (s.setReg16_untouched dst w).trans (State.advance_untouched len _)

theorem State.ldWordFromMem_untouched (dst : Reg16) (addr : Word) (len : Nat) (s : State) :
    s.Untouched (s.ldWordFromMem dst addr len) :=
  ((s.readWord_untouched addr).trans (State.setReg16_untouched dst _ _)).trans (State.advance_untouched len _)

theorem State.ldWordToMem_untouched (addr w : Word) (len : Nat) (s : State) : s.Untouched (s.ldWordToMem addr w len) :=
  (s.writeWord_untouched addr w).trans (State.advance_untouched len _)

theorem State.ldControl_untouched (v : Byte) (s : State) : s.Untouched (s.ldControl v) := .of_mem rfl rfl rfl

theorem State.jumpRelative_untouched (e : Byte) (s : State) : s.Untouched (s.jumpRelative e) := .of_mem rfl rfl rfl

theorem State.jumpIf_untouched (cc : Cond) (nn : Word) (s : State) : s.Untouched (s.jumpIf cc nn) := by
  unfold State.jumpIf
  split
  · exact s.goto_untouched nn
  · exact s.advance_untouched 3

theorem State.jumpRelativeIf_untouched (cc : Cond) (e : Byte) (s : State) : s.Untouched (s.jumpRelativeIf cc e) := by
  unfold State.jumpRelativeIf
  split
  · exact s.jumpRelative_untouched e
  · exact s.advance_untouched 2

theorem State.decrementJump_untouched (e : Byte) (s : State) : s.Untouched (s.decrementJump e) := by
  unfold State.decrementJump
  by_cases h : s.b - 1 = 0
  · simp only [h, if_true]
    exact .of_mem rfl rfl rfl
  · simp only [h, if_false]
    exact .of_mem rfl rfl rfl

theorem State.call_untouched (nn : Word) (s : State) : s.Untouched (s.call nn) :=
  (s.push16_untouched _).trans (State.goto_untouched nn _)

theorem State.callIf_untouched (cc : Cond) (nn : Word) (s : State) : s.Untouched (s.callIf cc nn) := by
  unfold State.callIf
  split
  · exact s.call_untouched nn
  · exact s.advance_untouched 3

theorem State.ret_untouched (s : State) : s.Untouched s.ret := s.pop16_untouched.trans (State.goto_untouched _ _)

theorem State.retIf_untouched (cc : Cond) (s : State) : s.Untouched (s.retIf cc) := by
  unfold State.retIf
  split
  · exact s.ret_untouched
  · exact s.advance_untouched 1

theorem State.restart_untouched (t : Byte) (s : State) : s.Untouched (s.restart t) :=
  (s.push16_untouched _).trans (State.goto_untouched _ _)

theorem State.endIteration_untouched (done : Bool) (s : State) : s.Untouched (s.endIteration done) := by
  cases done
  · exact s.refl_untouched
  · exact s.advance_untouched 2

theorem State.compareStep_untouched (dir : Direction) (s : State) : s.Untouched (s.compareStep dir) :=
  (((s.readByte_untouched s.hl).trans (State.setHL_untouched _ _)).trans (State.setBC_untouched _ _)).trans
    (State.writeFlags_untouched _ _)

theorem State.moveStep_untouched (dir : Direction) (s : State) : s.Untouched (s.moveStep dir) :=
  (((((s.readByte_untouched s.hl).trans (State.writeByte_untouched s.de _ _)).trans (State.setHL_untouched _ _)).trans
    (State.setDE_untouched _ _)).trans (State.setBC_untouched _ _)).trans (State.writeFlags_untouched _ _)

theorem State.moveRepeat_untouched (dir : Direction) (s : State) : s.Untouched (s.moveRepeat dir) :=
  (s.moveStep_untouched dir).trans (State.endIteration_untouched _ _)

theorem State.compareRepeat_untouched (dir : Direction) (s : State) : s.Untouched (s.compareRepeat dir) :=
  (s.compareStep_untouched dir).trans (State.endIteration_untouched _ _)

theorem State.inAImm_untouched (n : Byte) (s : State) : s.Untouched (s.inAImm n) := .of_mem rfl rfl rfl

theorem State.inReg_untouched (r : Reg8) (s : State) : s.Untouched (s.inReg r) :=
  (((s.ioRead_untouched s.bc).trans (State.setReg8_untouched r _ _)).trans (State.writeFlags_untouched _ _)).trans
    (State.advance_untouched 2 _)

theorem State.inFlags_untouched (s : State) : s.Untouched s.inFlags := .of_mem rfl rfl rfl

theorem State.outImm_untouched (n : Byte) (s : State) : s.Untouched (s.outImm n) := .of_mem rfl rfl rfl

theorem State.outPort_untouched (v : Byte) (s : State) : s.Untouched (s.outPort v) := .of_mem rfl rfl rfl

theorem State.inputStep_untouched (dir : Direction) (s : State) : s.Untouched (s.inputStep dir) :=
  ((((s.ioRead_untouched s.bc).trans (State.writeByte_untouched s.hl _ _)).trans (State.setHL_untouched _ _)).trans
    (State.setB_untouched _ _)).trans (State.writeFlags_untouched _ _)

theorem State.outputStep_untouched (dir : Direction) (s : State) : s.Untouched (s.outputStep dir) :=
  ((((s.readByte_untouched s.hl).trans (State.setB_untouched _ _)).trans (State.ioWrite_untouched _ _ _)).trans
    (State.setHL_untouched _ _)).trans (State.writeFlags_untouched _ _)

theorem State.inputRepeat_untouched (dir : Direction) (s : State) : s.Untouched (s.inputRepeat dir) :=
  (s.inputStep_untouched dir).trans (State.endIteration_untouched _ _)

theorem State.outputRepeat_untouched (dir : Direction) (s : State) : s.Untouched (s.outputRepeat dir) :=
  (s.outputStep_untouched dir).trans (State.endIteration_untouched _ _)

theorem State.exchangeDEHL_untouched (s : State) : s.Untouched s.exchangeDEHL := .of_mem rfl rfl rfl

theorem State.exchangeTop_untouched (r : Reg16) (len : Nat) (s : State) : s.Untouched (s.exchangeTop r len) :=
  (((s.readWord_untouched s.sp).trans (State.writeWordHighFirst_untouched s.sp _ _)).trans
    (State.setReg16_untouched r _ _)).trans (State.advance_untouched len _)

theorem State.push_untouched (r : Reg16) (len : Nat) (s : State) : s.Untouched (s.push r len) :=
  (s.push16_untouched _).trans (State.advance_untouched len _)

theorem State.pop_untouched (r : Reg16) (len : Nat) (s : State) : s.Untouched (s.pop r len) :=
  (s.pop16_untouched.trans (State.setReg16_untouched r _ _)).trans (State.advance_untouched len _)

end Sys2Proof.Machine
end

