-- ==== Sys2Proof/Laws/Exec.lean ====
section
/-! SUPPORT. Every instruction but ten ends in a next state that leaves what only those ten reach (`State.Untouched`). -/

namespace Sys2Proof.Machine

/-- The instructions that reach the shadow set, the interrupt state or the halt. -/
def hiddenStateInstructions : List Instr :=
  [.ex_AF_AFshadow, .exx, .di, .ei, .halt, .im_0, .im_1, .im_2, .reti, .retn]

/-- An instruction is one of the ten, or leaves what they reach. -/
theorem exec_untouched (i : Instr) (s : State) :
    i ∈ hiddenStateInstructions ∨ ∃ t, exec i s = .next t ∧ s.Untouched t :=
  match i with
  | .nop => .inr ⟨_, rfl, s.advance_untouched 1⟩
  | .ex_AF_AFshadow => .inl (by decide)
  | .djnz_e e => .inr ⟨_, rfl, s.decrementJump_untouched e⟩
  | .jr_e e => .inr ⟨_, rfl, s.jumpRelative_untouched e⟩
  | .jr_NZ_e e => .inr ⟨_, rfl, s.jumpRelativeIf_untouched .nz e⟩
  | .jr_Z_e e => .inr ⟨_, rfl, s.jumpRelativeIf_untouched .z e⟩
  | .jr_NC_e e => .inr ⟨_, rfl, s.jumpRelativeIf_untouched .nc e⟩
  | .jr_C_e e => .inr ⟨_, rfl, s.jumpRelativeIf_untouched .c e⟩
  | .ld_BC_nn nn => .inr ⟨_, rfl, s.ldWord_untouched .bc nn 3⟩
  | .add_HL_BC => .inr ⟨_, rfl, s.addWord_untouched .hl .bc 1⟩
  | .inc_BC => .inr ⟨_, rfl, s.incWord_untouched .bc 1⟩
  | .dec_BC => .inr ⟨_, rfl, s.decWord_untouched .bc 1⟩
  | .ld_DE_nn nn => .inr ⟨_, rfl, s.ldWord_untouched .de nn 3⟩
  | .add_HL_DE => .inr ⟨_, rfl, s.addWord_untouched .hl .de 1⟩
  | .inc_DE => .inr ⟨_, rfl, s.incWord_untouched .de 1⟩
  | .dec_DE => .inr ⟨_, rfl, s.decWord_untouched .de 1⟩
  | .ld_HL_nn nn => .inr ⟨_, rfl, s.ldWord_untouched .hl nn 3⟩
  | .add_HL_HL => .inr ⟨_, rfl, s.addWord_untouched .hl .hl 1⟩
  | .inc_HL => .inr ⟨_, rfl, s.incWord_untouched .hl 1⟩
  | .dec_HL => .inr ⟨_, rfl, s.decWord_untouched .hl 1⟩
  | .ld_SP_nn nn => .inr ⟨_, rfl, s.ldWord_untouched .sp nn 3⟩
  | .add_HL_SP => .inr ⟨_, rfl, s.addWord_untouched .hl .sp 1⟩
  | .inc_SP => .inr ⟨_, rfl, s.incWord_untouched .sp 1⟩
  | .dec_SP => .inr ⟨_, rfl, s.decWord_untouched .sp 1⟩
  | .ld_atBC_A => .inr ⟨_, rfl, s.ldToMem_untouched s.bc s.a 1⟩
  | .ld_atDE_A => .inr ⟨_, rfl, s.ldToMem_untouched s.de s.a 1⟩
  | .ld_atNn_HL nn => .inr ⟨_, rfl, s.ldWordToMem_untouched nn s.hl 3⟩
  | .ld_atNn_A nn => .inr ⟨_, rfl, s.ldToMem_untouched nn s.a 3⟩
  | .ld_A_atBC => .inr ⟨_, rfl, s.ldFromMem_untouched .a s.bc 1⟩
  | .ld_A_atDE => .inr ⟨_, rfl, s.ldFromMem_untouched .a s.de 1⟩
  | .ld_HL_atNn nn => .inr ⟨_, rfl, s.ldWordFromMem_untouched .hl nn 3⟩
  | .ld_A_atNn nn => .inr ⟨_, rfl, s.ldFromMem_untouched .a nn 3⟩
  | .inc_B => .inr ⟨_, rfl, s.incPlace_untouched (.reg .b) 1⟩
  | .dec_B => .inr ⟨_, rfl, s.decPlace_untouched (.reg .b) 1⟩
  | .ld_B_n n => .inr ⟨_, rfl, s.ldImm_untouched .b n 2⟩
  | .inc_C => .inr ⟨_, rfl, s.incPlace_untouched (.reg .c) 1⟩
  | .dec_C => .inr ⟨_, rfl, s.decPlace_untouched (.reg .c) 1⟩
  | .ld_C_n n => .inr ⟨_, rfl, s.ldImm_untouched .c n 2⟩
  | .inc_D => .inr ⟨_, rfl, s.incPlace_untouched (.reg .d) 1⟩
  | .dec_D => .inr ⟨_, rfl, s.decPlace_untouched (.reg .d) 1⟩
  | .ld_D_n n => .inr ⟨_, rfl, s.ldImm_untouched .d n 2⟩
  | .inc_E => .inr ⟨_, rfl, s.incPlace_untouched (.reg .e) 1⟩
  | .dec_E => .inr ⟨_, rfl, s.decPlace_untouched (.reg .e) 1⟩
  | .ld_E_n n => .inr ⟨_, rfl, s.ldImm_untouched .e n 2⟩
  | .inc_H => .inr ⟨_, rfl, s.incPlace_untouched (.reg .h) 1⟩
  | .dec_H => .inr ⟨_, rfl, s.decPlace_untouched (.reg .h) 1⟩
  | .ld_H_n n => .inr ⟨_, rfl, s.ldImm_untouched .h n 2⟩
  | .inc_L => .inr ⟨_, rfl, s.incPlace_untouched (.reg .l) 1⟩
  | .dec_L => .inr ⟨_, rfl, s.decPlace_untouched (.reg .l) 1⟩
  | .ld_L_n n => .inr ⟨_, rfl, s.ldImm_untouched .l n 2⟩
  | .inc_atHL => .inr ⟨_, rfl, s.incPlace_untouched .atHL 1⟩
  | .dec_atHL => .inr ⟨_, rfl, s.decPlace_untouched .atHL 1⟩
  | .ld_atHL_n n => .inr ⟨_, rfl, s.ldToMem_untouched s.hl n 2⟩
  | .inc_A => .inr ⟨_, rfl, s.incPlace_untouched (.reg .a) 1⟩
  | .dec_A => .inr ⟨_, rfl, s.decPlace_untouched (.reg .a) 1⟩
  | .ld_A_n n => .inr ⟨_, rfl, s.ldImm_untouched .a n 2⟩
  | .rlca => .inr ⟨_, rfl, s.rotateA_untouched .rlc⟩
  | .rrca => .inr ⟨_, rfl, s.rotateA_untouched .rrc⟩
  | .rla => .inr ⟨_, rfl, s.rotateA_untouched .rl⟩
  | .rra => .inr ⟨_, rfl, s.rotateA_untouched .rr⟩
  | .daa => .inr ⟨_, rfl, s.decimalAdjust_untouched⟩
  | .cpl => .inr ⟨_, rfl, s.complementA_untouched⟩
  | .scf => .inr ⟨_, rfl, s.raiseCarry_untouched⟩
  | .ccf => .inr ⟨_, rfl, s.invertCarry_untouched⟩
  | .ld_B_B => .inr ⟨_, rfl, s.ldReg_untouched .b .b 1⟩
  | .ld_B_C => .inr ⟨_, rfl, s.ldReg_untouched .b .c 1⟩
  | .ld_B_D => .inr ⟨_, rfl, s.ldReg_untouched .b .d 1⟩
  | .ld_B_E => .inr ⟨_, rfl, s.ldReg_untouched .b .e 1⟩
  | .ld_B_H => .inr ⟨_, rfl, s.ldReg_untouched .b .h 1⟩
  | .ld_B_L => .inr ⟨_, rfl, s.ldReg_untouched .b .l 1⟩
  | .ld_B_atHL => .inr ⟨_, rfl, s.ldFromMem_untouched .b s.hl 1⟩
  | .ld_B_A => .inr ⟨_, rfl, s.ldReg_untouched .b .a 1⟩
  | .ld_C_B => .inr ⟨_, rfl, s.ldReg_untouched .c .b 1⟩
  | .ld_C_C => .inr ⟨_, rfl, s.ldReg_untouched .c .c 1⟩
  | .ld_C_D => .inr ⟨_, rfl, s.ldReg_untouched .c .d 1⟩
  | .ld_C_E => .inr ⟨_, rfl, s.ldReg_untouched .c .e 1⟩
  | .ld_C_H => .inr ⟨_, rfl, s.ldReg_untouched .c .h 1⟩
  | .ld_C_L => .inr ⟨_, rfl, s.ldReg_untouched .c .l 1⟩
  | .ld_C_atHL => .inr ⟨_, rfl, s.ldFromMem_untouched .c s.hl 1⟩
  | .ld_C_A => .inr ⟨_, rfl, s.ldReg_untouched .c .a 1⟩
  | .ld_D_B => .inr ⟨_, rfl, s.ldReg_untouched .d .b 1⟩
  | .ld_D_C => .inr ⟨_, rfl, s.ldReg_untouched .d .c 1⟩
  | .ld_D_D => .inr ⟨_, rfl, s.ldReg_untouched .d .d 1⟩
  | .ld_D_E => .inr ⟨_, rfl, s.ldReg_untouched .d .e 1⟩
  | .ld_D_H => .inr ⟨_, rfl, s.ldReg_untouched .d .h 1⟩
  | .ld_D_L => .inr ⟨_, rfl, s.ldReg_untouched .d .l 1⟩
  | .ld_D_atHL => .inr ⟨_, rfl, s.ldFromMem_untouched .d s.hl 1⟩
  | .ld_D_A => .inr ⟨_, rfl, s.ldReg_untouched .d .a 1⟩
  | .ld_E_B => .inr ⟨_, rfl, s.ldReg_untouched .e .b 1⟩
  | .ld_E_C => .inr ⟨_, rfl, s.ldReg_untouched .e .c 1⟩
  | .ld_E_D => .inr ⟨_, rfl, s.ldReg_untouched .e .d 1⟩
  | .ld_E_E => .inr ⟨_, rfl, s.ldReg_untouched .e .e 1⟩
  | .ld_E_H => .inr ⟨_, rfl, s.ldReg_untouched .e .h 1⟩
  | .ld_E_L => .inr ⟨_, rfl, s.ldReg_untouched .e .l 1⟩
  | .ld_E_atHL => .inr ⟨_, rfl, s.ldFromMem_untouched .e s.hl 1⟩
  | .ld_E_A => .inr ⟨_, rfl, s.ldReg_untouched .e .a 1⟩
  | .ld_H_B => .inr ⟨_, rfl, s.ldReg_untouched .h .b 1⟩
  | .ld_H_C => .inr ⟨_, rfl, s.ldReg_untouched .h .c 1⟩
  | .ld_H_D => .inr ⟨_, rfl, s.ldReg_untouched .h .d 1⟩
  | .ld_H_E => .inr ⟨_, rfl, s.ldReg_untouched .h .e 1⟩
  | .ld_H_H => .inr ⟨_, rfl, s.ldReg_untouched .h .h 1⟩
  | .ld_H_L => .inr ⟨_, rfl, s.ldReg_untouched .h .l 1⟩
  | .ld_H_atHL => .inr ⟨_, rfl, s.ldFromMem_untouched .h s.hl 1⟩
  | .ld_H_A => .inr ⟨_, rfl, s.ldReg_untouched .h .a 1⟩
  | .ld_L_B => .inr ⟨_, rfl, s.ldReg_untouched .l .b 1⟩
  | .ld_L_C => .inr ⟨_, rfl, s.ldReg_untouched .l .c 1⟩
  | .ld_L_D => .inr ⟨_, rfl, s.ldReg_untouched .l .d 1⟩
  | .ld_L_E => .inr ⟨_, rfl, s.ldReg_untouched .l .e 1⟩
  | .ld_L_H => .inr ⟨_, rfl, s.ldReg_untouched .l .h 1⟩
  | .ld_L_L => .inr ⟨_, rfl, s.ldReg_untouched .l .l 1⟩
  | .ld_L_atHL => .inr ⟨_, rfl, s.ldFromMem_untouched .l s.hl 1⟩
  | .ld_L_A => .inr ⟨_, rfl, s.ldReg_untouched .l .a 1⟩
  | .ld_atHL_B => .inr ⟨_, rfl, s.ldToMem_untouched s.hl s.b 1⟩
  | .ld_atHL_C => .inr ⟨_, rfl, s.ldToMem_untouched s.hl s.c 1⟩
  | .ld_atHL_D => .inr ⟨_, rfl, s.ldToMem_untouched s.hl s.d 1⟩
  | .ld_atHL_E => .inr ⟨_, rfl, s.ldToMem_untouched s.hl s.e 1⟩
  | .ld_atHL_H => .inr ⟨_, rfl, s.ldToMem_untouched s.hl s.h 1⟩
  | .ld_atHL_L => .inr ⟨_, rfl, s.ldToMem_untouched s.hl s.l 1⟩
  | .halt => .inl (by decide)
  | .ld_atHL_A => .inr ⟨_, rfl, s.ldToMem_untouched s.hl s.a 1⟩
  | .ld_A_B => .inr ⟨_, rfl, s.ldReg_untouched .a .b 1⟩
  | .ld_A_C => .inr ⟨_, rfl, s.ldReg_untouched .a .c 1⟩
  | .ld_A_D => .inr ⟨_, rfl, s.ldReg_untouched .a .d 1⟩
  | .ld_A_E => .inr ⟨_, rfl, s.ldReg_untouched .a .e 1⟩
  | .ld_A_H => .inr ⟨_, rfl, s.ldReg_untouched .a .h 1⟩
  | .ld_A_L => .inr ⟨_, rfl, s.ldReg_untouched .a .l 1⟩
  | .ld_A_atHL => .inr ⟨_, rfl, s.ldFromMem_untouched .a s.hl 1⟩
  | .ld_A_A => .inr ⟨_, rfl, s.ldReg_untouched .a .a 1⟩
  | .add_A_B => .inr ⟨_, rfl, s.addA_untouched (.place (.reg .b)) 1⟩
  | .add_A_C => .inr ⟨_, rfl, s.addA_untouched (.place (.reg .c)) 1⟩
  | .add_A_D => .inr ⟨_, rfl, s.addA_untouched (.place (.reg .d)) 1⟩
  | .add_A_E => .inr ⟨_, rfl, s.addA_untouched (.place (.reg .e)) 1⟩
  | .add_A_H => .inr ⟨_, rfl, s.addA_untouched (.place (.reg .h)) 1⟩
  | .add_A_L => .inr ⟨_, rfl, s.addA_untouched (.place (.reg .l)) 1⟩
  | .add_A_atHL => .inr ⟨_, rfl, s.addA_untouched (.place .atHL) 1⟩
  | .add_A_A => .inr ⟨_, rfl, s.addA_untouched (.place (.reg .a)) 1⟩
  | .add_A_n n => .inr ⟨_, rfl, s.addA_untouched (.imm n) 2⟩
  | .adc_A_B => .inr ⟨_, rfl, s.adcA_untouched (.place (.reg .b)) 1⟩
  | .adc_A_C => .inr ⟨_, rfl, s.adcA_untouched (.place (.reg .c)) 1⟩
  | .adc_A_D => .inr ⟨_, rfl, s.adcA_untouched (.place (.reg .d)) 1⟩
  | .adc_A_E => .inr ⟨_, rfl, s.adcA_untouched (.place (.reg .e)) 1⟩
  | .adc_A_H => .inr ⟨_, rfl, s.adcA_untouched (.place (.reg .h)) 1⟩
  | .adc_A_L => .inr ⟨_, rfl, s.adcA_untouched (.place (.reg .l)) 1⟩
  | .adc_A_atHL => .inr ⟨_, rfl, s.adcA_untouched (.place .atHL) 1⟩
  | .adc_A_A => .inr ⟨_, rfl, s.adcA_untouched (.place (.reg .a)) 1⟩
  | .adc_A_n n => .inr ⟨_, rfl, s.adcA_untouched (.imm n) 2⟩
  | .sub_B => .inr ⟨_, rfl, s.subA_untouched (.place (.reg .b)) 1⟩
  | .sub_C => .inr ⟨_, rfl, s.subA_untouched (.place (.reg .c)) 1⟩
  | .sub_D => .inr ⟨_, rfl, s.subA_untouched (.place (.reg .d)) 1⟩
  | .sub_E => .inr ⟨_, rfl, s.subA_untouched (.place (.reg .e)) 1⟩
  | .sub_H => .inr ⟨_, rfl, s.subA_untouched (.place (.reg .h)) 1⟩
  | .sub_L => .inr ⟨_, rfl, s.subA_untouched (.place (.reg .l)) 1⟩
  | .sub_atHL => .inr ⟨_, rfl, s.subA_untouched (.place .atHL) 1⟩
  | .sub_A => .inr ⟨_, rfl, s.subA_untouched (.place (.reg .a)) 1⟩
  | .sub_n n => .inr ⟨_, rfl, s.subA_untouched (.imm n) 2⟩
  | .sbc_A_B => .inr ⟨_, rfl, s.sbcA_untouched (.place (.reg .b)) 1⟩
  | .sbc_A_C => .inr ⟨_, rfl, s.sbcA_untouched (.place (.reg .c)) 1⟩
  | .sbc_A_D => .inr ⟨_, rfl, s.sbcA_untouched (.place (.reg .d)) 1⟩
  | .sbc_A_E => .inr ⟨_, rfl, s.sbcA_untouched (.place (.reg .e)) 1⟩
  | .sbc_A_H => .inr ⟨_, rfl, s.sbcA_untouched (.place (.reg .h)) 1⟩
  | .sbc_A_L => .inr ⟨_, rfl, s.sbcA_untouched (.place (.reg .l)) 1⟩
  | .sbc_A_atHL => .inr ⟨_, rfl, s.sbcA_untouched (.place .atHL) 1⟩
  | .sbc_A_A => .inr ⟨_, rfl, s.sbcA_untouched (.place (.reg .a)) 1⟩
  | .sbc_A_n n => .inr ⟨_, rfl, s.sbcA_untouched (.imm n) 2⟩
  | .and_B => .inr ⟨_, rfl, s.andA_untouched (.place (.reg .b)) 1⟩
  | .and_C => .inr ⟨_, rfl, s.andA_untouched (.place (.reg .c)) 1⟩
  | .and_D => .inr ⟨_, rfl, s.andA_untouched (.place (.reg .d)) 1⟩
  | .and_E => .inr ⟨_, rfl, s.andA_untouched (.place (.reg .e)) 1⟩
  | .and_H => .inr ⟨_, rfl, s.andA_untouched (.place (.reg .h)) 1⟩
  | .and_L => .inr ⟨_, rfl, s.andA_untouched (.place (.reg .l)) 1⟩
  | .and_atHL => .inr ⟨_, rfl, s.andA_untouched (.place .atHL) 1⟩
  | .and_A => .inr ⟨_, rfl, s.andA_untouched (.place (.reg .a)) 1⟩
  | .and_n n => .inr ⟨_, rfl, s.andA_untouched (.imm n) 2⟩
  | .xor_B => .inr ⟨_, rfl, s.xorA_untouched (.place (.reg .b)) 1⟩
  | .xor_C => .inr ⟨_, rfl, s.xorA_untouched (.place (.reg .c)) 1⟩
  | .xor_D => .inr ⟨_, rfl, s.xorA_untouched (.place (.reg .d)) 1⟩
  | .xor_E => .inr ⟨_, rfl, s.xorA_untouched (.place (.reg .e)) 1⟩
  | .xor_H => .inr ⟨_, rfl, s.xorA_untouched (.place (.reg .h)) 1⟩
  | .xor_L => .inr ⟨_, rfl, s.xorA_untouched (.place (.reg .l)) 1⟩
  | .xor_atHL => .inr ⟨_, rfl, s.xorA_untouched (.place .atHL) 1⟩
  | .xor_A => .inr ⟨_, rfl, s.xorA_untouched (.place (.reg .a)) 1⟩
  | .xor_n n => .inr ⟨_, rfl, s.xorA_untouched (.imm n) 2⟩
  | .or_B => .inr ⟨_, rfl, s.orA_untouched (.place (.reg .b)) 1⟩
  | .or_C => .inr ⟨_, rfl, s.orA_untouched (.place (.reg .c)) 1⟩
  | .or_D => .inr ⟨_, rfl, s.orA_untouched (.place (.reg .d)) 1⟩
  | .or_E => .inr ⟨_, rfl, s.orA_untouched (.place (.reg .e)) 1⟩
  | .or_H => .inr ⟨_, rfl, s.orA_untouched (.place (.reg .h)) 1⟩
  | .or_L => .inr ⟨_, rfl, s.orA_untouched (.place (.reg .l)) 1⟩
  | .or_atHL => .inr ⟨_, rfl, s.orA_untouched (.place .atHL) 1⟩
  | .or_A => .inr ⟨_, rfl, s.orA_untouched (.place (.reg .a)) 1⟩
  | .or_n n => .inr ⟨_, rfl, s.orA_untouched (.imm n) 2⟩
  | .cp_B => .inr ⟨_, rfl, s.cpA_untouched (.place (.reg .b)) 1⟩
  | .cp_C => .inr ⟨_, rfl, s.cpA_untouched (.place (.reg .c)) 1⟩
  | .cp_D => .inr ⟨_, rfl, s.cpA_untouched (.place (.reg .d)) 1⟩
  | .cp_E => .inr ⟨_, rfl, s.cpA_untouched (.place (.reg .e)) 1⟩
  | .cp_H => .inr ⟨_, rfl, s.cpA_untouched (.place (.reg .h)) 1⟩
  | .cp_L => .inr ⟨_, rfl, s.cpA_untouched (.place (.reg .l)) 1⟩
  | .cp_atHL => .inr ⟨_, rfl, s.cpA_untouched (.place .atHL) 1⟩
  | .cp_A => .inr ⟨_, rfl, s.cpA_untouched (.place (.reg .a)) 1⟩
  | .cp_n n => .inr ⟨_, rfl, s.cpA_untouched (.imm n) 2⟩
  | .ret_NZ => .inr ⟨_, rfl, s.retIf_untouched .nz⟩
  | .jp_NZ_nn nn => .inr ⟨_, rfl, s.jumpIf_untouched .nz nn⟩
  | .call_NZ_nn nn => .inr ⟨_, rfl, s.callIf_untouched .nz nn⟩
  | .rst_00 => .inr ⟨_, rfl, s.restart_untouched 0x00⟩
  | .ret_Z => .inr ⟨_, rfl, s.retIf_untouched .z⟩
  | .jp_Z_nn nn => .inr ⟨_, rfl, s.jumpIf_untouched .z nn⟩
  | .call_Z_nn nn => .inr ⟨_, rfl, s.callIf_untouched .z nn⟩
  | .rst_08 => .inr ⟨_, rfl, s.restart_untouched 0x08⟩
  | .ret_NC => .inr ⟨_, rfl, s.retIf_untouched .nc⟩
  | .jp_NC_nn nn => .inr ⟨_, rfl, s.jumpIf_untouched .nc nn⟩
  | .call_NC_nn nn => .inr ⟨_, rfl, s.callIf_untouched .nc nn⟩
  | .rst_10 => .inr ⟨_, rfl, s.restart_untouched 0x10⟩
  | .ret_C => .inr ⟨_, rfl, s.retIf_untouched .c⟩
  | .jp_C_nn nn => .inr ⟨_, rfl, s.jumpIf_untouched .c nn⟩
  | .call_C_nn nn => .inr ⟨_, rfl, s.callIf_untouched .c nn⟩
  | .rst_18 => .inr ⟨_, rfl, s.restart_untouched 0x18⟩
  | .ret_PO => .inr ⟨_, rfl, s.retIf_untouched .po⟩
  | .jp_PO_nn nn => .inr ⟨_, rfl, s.jumpIf_untouched .po nn⟩
  | .call_PO_nn nn => .inr ⟨_, rfl, s.callIf_untouched .po nn⟩
  | .rst_20 => .inr ⟨_, rfl, s.restart_untouched 0x20⟩
  | .ret_PE => .inr ⟨_, rfl, s.retIf_untouched .pe⟩
  | .jp_PE_nn nn => .inr ⟨_, rfl, s.jumpIf_untouched .pe nn⟩
  | .call_PE_nn nn => .inr ⟨_, rfl, s.callIf_untouched .pe nn⟩
  | .rst_28 => .inr ⟨_, rfl, s.restart_untouched 0x28⟩
  | .ret_P => .inr ⟨_, rfl, s.retIf_untouched .p⟩
  | .jp_P_nn nn => .inr ⟨_, rfl, s.jumpIf_untouched .p nn⟩
  | .call_P_nn nn => .inr ⟨_, rfl, s.callIf_untouched .p nn⟩
  | .rst_30 => .inr ⟨_, rfl, s.restart_untouched 0x30⟩
  | .ret_M => .inr ⟨_, rfl, s.retIf_untouched .m⟩
  | .jp_M_nn nn => .inr ⟨_, rfl, s.jumpIf_untouched .m nn⟩
  | .call_M_nn nn => .inr ⟨_, rfl, s.callIf_untouched .m nn⟩
  | .rst_38 => .inr ⟨_, rfl, s.restart_untouched 0x38⟩
  | .pop_BC => .inr ⟨_, rfl, s.pop_untouched .bc 1⟩
  | .push_BC => .inr ⟨_, rfl, s.push_untouched .bc 1⟩
  | .pop_DE => .inr ⟨_, rfl, s.pop_untouched .de 1⟩
  | .push_DE => .inr ⟨_, rfl, s.push_untouched .de 1⟩
  | .pop_HL => .inr ⟨_, rfl, s.pop_untouched .hl 1⟩
  | .push_HL => .inr ⟨_, rfl, s.push_untouched .hl 1⟩
  | .pop_AF => .inr ⟨_, rfl, s.pop_untouched .af 1⟩
  | .push_AF => .inr ⟨_, rfl, s.push_untouched .af 1⟩
  | .ret => .inr ⟨_, rfl, s.ret_untouched⟩
  | .exx => .inl (by decide)
  | .jp_HL => .inr ⟨_, rfl, s.goto_untouched s.hl⟩
  | .ld_SP_HL => .inr ⟨_, rfl, s.ldWord_untouched .sp s.hl 1⟩
  | .jp_nn nn => .inr ⟨_, rfl, s.goto_untouched nn⟩
  | .out_atN_A n => .inr ⟨_, rfl, s.outImm_untouched n⟩
  | .in_A_atN n => .inr ⟨_, rfl, s.inAImm_untouched n⟩
  | .ex_atSP_HL => .inr ⟨_, rfl, s.exchangeTop_untouched .hl 1⟩
  | .ex_DE_HL => .inr ⟨_, rfl, s.exchangeDEHL_untouched⟩
  | .di => .inl (by decide)
  | .ei => .inl (by decide)
  | .call_nn nn => .inr ⟨_, rfl, s.call_untouched nn⟩
  | .rlc_B => .inr ⟨_, rfl, s.shiftPlace_untouched .rlc (.reg .b) 2⟩
  | .rlc_C => .inr ⟨_, rfl, s.shiftPlace_untouched .rlc (.reg .c) 2⟩
  | .rlc_D => .inr ⟨_, rfl, s.shiftPlace_untouched .rlc (.reg .d) 2⟩
  | .rlc_E => .inr ⟨_, rfl, s.shiftPlace_untouched .rlc (.reg .e) 2⟩
  | .rlc_H => .inr ⟨_, rfl, s.shiftPlace_untouched .rlc (.reg .h) 2⟩
  | .rlc_L => .inr ⟨_, rfl, s.shiftPlace_untouched .rlc (.reg .l) 2⟩
  | .rlc_atHL => .inr ⟨_, rfl, s.shiftPlace_untouched .rlc .atHL 2⟩
  | .rlc_A => .inr ⟨_, rfl, s.shiftPlace_untouched .rlc (.reg .a) 2⟩
  | .rrc_B => .inr ⟨_, rfl, s.shiftPlace_untouched .rrc (.reg .b) 2⟩
  | .rrc_C => .inr ⟨_, rfl, s.shiftPlace_untouched .rrc (.reg .c) 2⟩
  | .rrc_D => .inr ⟨_, rfl, s.shiftPlace_untouched .rrc (.reg .d) 2⟩
  | .rrc_E => .inr ⟨_, rfl, s.shiftPlace_untouched .rrc (.reg .e) 2⟩
  | .rrc_H => .inr ⟨_, rfl, s.shiftPlace_untouched .rrc (.reg .h) 2⟩
  | .rrc_L => .inr ⟨_, rfl, s.shiftPlace_untouched .rrc (.reg .l) 2⟩
  | .rrc_atHL => .inr ⟨_, rfl, s.shiftPlace_untouched .rrc .atHL 2⟩
  | .rrc_A => .inr ⟨_, rfl, s.shiftPlace_untouched .rrc (.reg .a) 2⟩
  | .rl_B => .inr ⟨_, rfl, s.shiftPlace_untouched .rl (.reg .b) 2⟩
  | .rl_C => .inr ⟨_, rfl, s.shiftPlace_untouched .rl (.reg .c) 2⟩
  | .rl_D => .inr ⟨_, rfl, s.shiftPlace_untouched .rl (.reg .d) 2⟩
  | .rl_E => .inr ⟨_, rfl, s.shiftPlace_untouched .rl (.reg .e) 2⟩
  | .rl_H => .inr ⟨_, rfl, s.shiftPlace_untouched .rl (.reg .h) 2⟩
  | .rl_L => .inr ⟨_, rfl, s.shiftPlace_untouched .rl (.reg .l) 2⟩
  | .rl_atHL => .inr ⟨_, rfl, s.shiftPlace_untouched .rl .atHL 2⟩
  | .rl_A => .inr ⟨_, rfl, s.shiftPlace_untouched .rl (.reg .a) 2⟩
  | .rr_B => .inr ⟨_, rfl, s.shiftPlace_untouched .rr (.reg .b) 2⟩
  | .rr_C => .inr ⟨_, rfl, s.shiftPlace_untouched .rr (.reg .c) 2⟩
  | .rr_D => .inr ⟨_, rfl, s.shiftPlace_untouched .rr (.reg .d) 2⟩
  | .rr_E => .inr ⟨_, rfl, s.shiftPlace_untouched .rr (.reg .e) 2⟩
  | .rr_H => .inr ⟨_, rfl, s.shiftPlace_untouched .rr (.reg .h) 2⟩
  | .rr_L => .inr ⟨_, rfl, s.shiftPlace_untouched .rr (.reg .l) 2⟩
  | .rr_atHL => .inr ⟨_, rfl, s.shiftPlace_untouched .rr .atHL 2⟩
  | .rr_A => .inr ⟨_, rfl, s.shiftPlace_untouched .rr (.reg .a) 2⟩
  | .sla_B => .inr ⟨_, rfl, s.shiftPlace_untouched .sla (.reg .b) 2⟩
  | .sla_C => .inr ⟨_, rfl, s.shiftPlace_untouched .sla (.reg .c) 2⟩
  | .sla_D => .inr ⟨_, rfl, s.shiftPlace_untouched .sla (.reg .d) 2⟩
  | .sla_E => .inr ⟨_, rfl, s.shiftPlace_untouched .sla (.reg .e) 2⟩
  | .sla_H => .inr ⟨_, rfl, s.shiftPlace_untouched .sla (.reg .h) 2⟩
  | .sla_L => .inr ⟨_, rfl, s.shiftPlace_untouched .sla (.reg .l) 2⟩
  | .sla_atHL => .inr ⟨_, rfl, s.shiftPlace_untouched .sla .atHL 2⟩
  | .sla_A => .inr ⟨_, rfl, s.shiftPlace_untouched .sla (.reg .a) 2⟩
  | .sra_B => .inr ⟨_, rfl, s.shiftPlace_untouched .sra (.reg .b) 2⟩
  | .sra_C => .inr ⟨_, rfl, s.shiftPlace_untouched .sra (.reg .c) 2⟩
  | .sra_D => .inr ⟨_, rfl, s.shiftPlace_untouched .sra (.reg .d) 2⟩
  | .sra_E => .inr ⟨_, rfl, s.shiftPlace_untouched .sra (.reg .e) 2⟩
  | .sra_H => .inr ⟨_, rfl, s.shiftPlace_untouched .sra (.reg .h) 2⟩
  | .sra_L => .inr ⟨_, rfl, s.shiftPlace_untouched .sra (.reg .l) 2⟩
  | .sra_atHL => .inr ⟨_, rfl, s.shiftPlace_untouched .sra .atHL 2⟩
  | .sra_A => .inr ⟨_, rfl, s.shiftPlace_untouched .sra (.reg .a) 2⟩
  | .sll_B => .inr ⟨_, rfl, s.shiftPlace_untouched .sll (.reg .b) 2⟩
  | .sll_C => .inr ⟨_, rfl, s.shiftPlace_untouched .sll (.reg .c) 2⟩
  | .sll_D => .inr ⟨_, rfl, s.shiftPlace_untouched .sll (.reg .d) 2⟩
  | .sll_E => .inr ⟨_, rfl, s.shiftPlace_untouched .sll (.reg .e) 2⟩
  | .sll_H => .inr ⟨_, rfl, s.shiftPlace_untouched .sll (.reg .h) 2⟩
  | .sll_L => .inr ⟨_, rfl, s.shiftPlace_untouched .sll (.reg .l) 2⟩
  | .sll_atHL => .inr ⟨_, rfl, s.shiftPlace_untouched .sll .atHL 2⟩
  | .sll_A => .inr ⟨_, rfl, s.shiftPlace_untouched .sll (.reg .a) 2⟩
  | .srl_B => .inr ⟨_, rfl, s.shiftPlace_untouched .srl (.reg .b) 2⟩
  | .srl_C => .inr ⟨_, rfl, s.shiftPlace_untouched .srl (.reg .c) 2⟩
  | .srl_D => .inr ⟨_, rfl, s.shiftPlace_untouched .srl (.reg .d) 2⟩
  | .srl_E => .inr ⟨_, rfl, s.shiftPlace_untouched .srl (.reg .e) 2⟩
  | .srl_H => .inr ⟨_, rfl, s.shiftPlace_untouched .srl (.reg .h) 2⟩
  | .srl_L => .inr ⟨_, rfl, s.shiftPlace_untouched .srl (.reg .l) 2⟩
  | .srl_atHL => .inr ⟨_, rfl, s.shiftPlace_untouched .srl .atHL 2⟩
  | .srl_A => .inr ⟨_, rfl, s.shiftPlace_untouched .srl (.reg .a) 2⟩
  | .bit_b_B b => .inr ⟨_, rfl, s.testBit_untouched b (.reg .b) 2⟩
  | .bit_b_C b => .inr ⟨_, rfl, s.testBit_untouched b (.reg .c) 2⟩
  | .bit_b_D b => .inr ⟨_, rfl, s.testBit_untouched b (.reg .d) 2⟩
  | .bit_b_E b => .inr ⟨_, rfl, s.testBit_untouched b (.reg .e) 2⟩
  | .bit_b_H b => .inr ⟨_, rfl, s.testBit_untouched b (.reg .h) 2⟩
  | .bit_b_L b => .inr ⟨_, rfl, s.testBit_untouched b (.reg .l) 2⟩
  | .bit_b_atHL b => .inr ⟨_, rfl, s.testBit_untouched b .atHL 2⟩
  | .bit_b_A b => .inr ⟨_, rfl, s.testBit_untouched b (.reg .a) 2⟩
  | .res_b_B b => .inr ⟨_, rfl, s.modifyPlace_untouched (resetBit b) (.reg .b) 2⟩
  | .res_b_C b => .inr ⟨_, rfl, s.modifyPlace_untouched (resetBit b) (.reg .c) 2⟩
  | .res_b_D b => .inr ⟨_, rfl, s.modifyPlace_untouched (resetBit b) (.reg .d) 2⟩
  | .res_b_E b => .inr ⟨_, rfl, s.modifyPlace_untouched (resetBit b) (.reg .e) 2⟩
  | .res_b_H b => .inr ⟨_, rfl, s.modifyPlace_untouched (resetBit b) (.reg .h) 2⟩
  | .res_b_L b => .inr ⟨_, rfl, s.modifyPlace_untouched (resetBit b) (.reg .l) 2⟩
  | .res_b_atHL b => .inr ⟨_, rfl, s.modifyPlace_untouched (resetBit b) .atHL 2⟩
  | .res_b_A b => .inr ⟨_, rfl, s.modifyPlace_untouched (resetBit b) (.reg .a) 2⟩
  | .set_b_B b => .inr ⟨_, rfl, s.modifyPlace_untouched (setBit b) (.reg .b) 2⟩
  | .set_b_C b => .inr ⟨_, rfl, s.modifyPlace_untouched (setBit b) (.reg .c) 2⟩
  | .set_b_D b => .inr ⟨_, rfl, s.modifyPlace_untouched (setBit b) (.reg .d) 2⟩
  | .set_b_E b => .inr ⟨_, rfl, s.modifyPlace_untouched (setBit b) (.reg .e) 2⟩
  | .set_b_H b => .inr ⟨_, rfl, s.modifyPlace_untouched (setBit b) (.reg .h) 2⟩
  | .set_b_L b => .inr ⟨_, rfl, s.modifyPlace_untouched (setBit b) (.reg .l) 2⟩
  | .set_b_atHL b => .inr ⟨_, rfl, s.modifyPlace_untouched (setBit b) .atHL 2⟩
  | .set_b_A b => .inr ⟨_, rfl, s.modifyPlace_untouched (setBit b) (.reg .a) 2⟩
  | .in_B_atC => .inr ⟨_, rfl, s.inReg_untouched .b⟩
  | .out_atC_B => .inr ⟨_, rfl, s.outPort_untouched s.b⟩
  | .in_C_atC => .inr ⟨_, rfl, s.inReg_untouched .c⟩
  | .out_atC_C => .inr ⟨_, rfl, s.outPort_untouched s.c⟩
  | .in_D_atC => .inr ⟨_, rfl, s.inReg_untouched .d⟩
  | .out_atC_D => .inr ⟨_, rfl, s.outPort_untouched s.d⟩
  | .in_E_atC => .inr ⟨_, rfl, s.inReg_untouched .e⟩
  | .out_atC_E => .inr ⟨_, rfl, s.outPort_untouched s.e⟩
  | .in_H_atC => .inr ⟨_, rfl, s.inReg_untouched .h⟩
  | .out_atC_H => .inr ⟨_, rfl, s.outPort_untouched s.h⟩
  | .in_L_atC => .inr ⟨_, rfl, s.inReg_untouched .l⟩
  | .out_atC_L => .inr ⟨_, rfl, s.outPort_untouched s.l⟩
  | .in_atC => .inr ⟨_, rfl, s.inFlags_untouched⟩
  | .out_atC_0 => .inr ⟨_, rfl, s.outPort_untouched Config.outC0Value⟩
  | .in_A_atC => .inr ⟨_, rfl, s.inReg_untouched .a⟩
  | .out_atC_A => .inr ⟨_, rfl, s.outPort_untouched s.a⟩
  | .sbc_HL_BC => .inr ⟨_, rfl, s.sbcHL_untouched .bc⟩
  | .adc_HL_BC => .inr ⟨_, rfl, s.adcHL_untouched .bc⟩
  | .ld_atNn_BC nn => .inr ⟨_, rfl, s.ldWordToMem_untouched nn s.bc 4⟩
  | .ld_BC_atNn nn => .inr ⟨_, rfl, s.ldWordFromMem_untouched .bc nn 4⟩
  | .sbc_HL_DE => .inr ⟨_, rfl, s.sbcHL_untouched .de⟩
  | .adc_HL_DE => .inr ⟨_, rfl, s.adcHL_untouched .de⟩
  | .ld_atNn_DE nn => .inr ⟨_, rfl, s.ldWordToMem_untouched nn s.de 4⟩
  | .ld_DE_atNn nn => .inr ⟨_, rfl, s.ldWordFromMem_untouched .de nn 4⟩
  | .sbc_HL_HL => .inr ⟨_, rfl, s.sbcHL_untouched .hl⟩
  | .adc_HL_HL => .inr ⟨_, rfl, s.adcHL_untouched .hl⟩
  | .ld_atNn_HL_ed nn => .inr ⟨_, rfl, s.ldWordToMem_untouched nn s.hl 4⟩
  | .ld_HL_atNn_ed nn => .inr ⟨_, rfl, s.ldWordFromMem_untouched .hl nn 4⟩
  | .sbc_HL_SP => .inr ⟨_, rfl, s.sbcHL_untouched .sp⟩
  | .adc_HL_SP => .inr ⟨_, rfl, s.adcHL_untouched .sp⟩
  | .ld_atNn_SP nn => .inr ⟨_, rfl, s.ldWordToMem_untouched nn s.sp 4⟩
  | .ld_SP_atNn nn => .inr ⟨_, rfl, s.ldWordFromMem_untouched .sp nn 4⟩
  | .neg => .inr ⟨_, rfl, s.negA_untouched⟩
  | .retn => .inl (by decide)
  | .reti => .inl (by decide)
  | .im_0 => .inl (by decide)
  | .im_1 => .inl (by decide)
  | .im_2 => .inl (by decide)
  | .ld_I_A => .inr ⟨_, rfl, .of_mem rfl rfl rfl⟩
  | .ld_R_A => .inr ⟨_, rfl, .of_mem rfl rfl rfl⟩
  | .ld_A_I => .inr ⟨_, rfl, s.ldControl_untouched s.i⟩
  | .ld_A_R => .inr ⟨_, rfl, s.ldControl_untouched s.r⟩
  | .rrd => .inr ⟨_, rfl, s.rotateDigits_untouched rrdMem rrdA⟩
  | .rld => .inr ⟨_, rfl, s.rotateDigits_untouched rldMem rldA⟩
  | .ldi => .inr ⟨_, rfl, (s.moveStep_untouched .up).trans (State.advance_untouched 2 _)⟩
  | .cpi => .inr ⟨_, rfl, (s.compareStep_untouched .up).trans (State.advance_untouched 2 _)⟩
  | .ini => .inr ⟨_, rfl, (s.inputStep_untouched .up).trans (State.advance_untouched 2 _)⟩
  | .outi => .inr ⟨_, rfl, (s.outputStep_untouched .up).trans (State.advance_untouched 2 _)⟩
  | .ldd => .inr ⟨_, rfl, (s.moveStep_untouched .down).trans (State.advance_untouched 2 _)⟩
  | .cpd => .inr ⟨_, rfl, (s.compareStep_untouched .down).trans (State.advance_untouched 2 _)⟩
  | .ind => .inr ⟨_, rfl, (s.inputStep_untouched .down).trans (State.advance_untouched 2 _)⟩
  | .outd => .inr ⟨_, rfl, (s.outputStep_untouched .down).trans (State.advance_untouched 2 _)⟩
  | .ldir => .inr ⟨_, rfl, s.moveRepeat_untouched .up⟩
  | .cpir => .inr ⟨_, rfl, s.compareRepeat_untouched .up⟩
  | .inir => .inr ⟨_, rfl, s.inputRepeat_untouched .up⟩
  | .otir => .inr ⟨_, rfl, s.outputRepeat_untouched .up⟩
  | .lddr => .inr ⟨_, rfl, s.moveRepeat_untouched .down⟩
  | .cpdr => .inr ⟨_, rfl, s.compareRepeat_untouched .down⟩
  | .indr => .inr ⟨_, rfl, s.inputRepeat_untouched .down⟩
  | .otdr => .inr ⟨_, rfl, s.outputRepeat_untouched .down⟩
  | .add_IX_BC => .inr ⟨_, rfl, s.addWord_untouched .ix .bc 2⟩
  | .add_IX_DE => .inr ⟨_, rfl, s.addWord_untouched .ix .de 2⟩
  | .add_IX_IX => .inr ⟨_, rfl, s.addWord_untouched .ix .ix 2⟩
  | .add_IX_SP => .inr ⟨_, rfl, s.addWord_untouched .ix .sp 2⟩
  | .ld_IX_nn nn => .inr ⟨_, rfl, s.ldWord_untouched .ix nn 4⟩
  | .ld_atNn_IX nn => .inr ⟨_, rfl, s.ldWordToMem_untouched nn s.ix 4⟩
  | .ld_IX_atNn nn => .inr ⟨_, rfl, s.ldWordFromMem_untouched .ix nn 4⟩
  | .inc_IX => .inr ⟨_, rfl, s.incWord_untouched .ix 2⟩
  | .dec_IX => .inr ⟨_, rfl, s.decWord_untouched .ix 2⟩
  | .inc_IXH => .inr ⟨_, rfl, s.incPlace_untouched (.reg .ixh) 2⟩
  | .dec_IXH => .inr ⟨_, rfl, s.decPlace_untouched (.reg .ixh) 2⟩
  | .ld_IXH_n n => .inr ⟨_, rfl, s.ldImm_untouched .ixh n 3⟩
  | .inc_IXL => .inr ⟨_, rfl, s.incPlace_untouched (.reg .ixl) 2⟩
  | .dec_IXL => .inr ⟨_, rfl, s.decPlace_untouched (.reg .ixl) 2⟩
  | .ld_IXL_n n => .inr ⟨_, rfl, s.ldImm_untouched .ixl n 3⟩
  | .inc_atIXd d => .inr ⟨_, rfl, s.incPlace_untouched (.atIX d) 3⟩
  | .dec_atIXd d => .inr ⟨_, rfl, s.decPlace_untouched (.atIX d) 3⟩
  | .ld_atIXd_n d n => .inr ⟨_, rfl, s.ldToMem_untouched (displaced s.ix d) n 4⟩
  | .ld_B_IXH => .inr ⟨_, rfl, s.ldReg_untouched .b .ixh 2⟩
  | .ld_B_IXL => .inr ⟨_, rfl, s.ldReg_untouched .b .ixl 2⟩
  | .ld_B_atIXd d => .inr ⟨_, rfl, s.ldFromMem_untouched .b (displaced s.ix d) 3⟩
  | .ld_C_IXH => .inr ⟨_, rfl, s.ldReg_untouched .c .ixh 2⟩
  | .ld_C_IXL => .inr ⟨_, rfl, s.ldReg_untouched .c .ixl 2⟩
  | .ld_C_atIXd d => .inr ⟨_, rfl, s.ldFromMem_untouched .c (displaced s.ix d) 3⟩
  | .ld_D_IXH => .inr ⟨_, rfl, s.ldReg_untouched .d .ixh 2⟩
  | .ld_D_IXL => .inr ⟨_, rfl, s.ldReg_untouched .d .ixl 2⟩
  | .ld_D_atIXd d => .inr ⟨_, rfl, s.ldFromMem_untouched .d (displaced s.ix d) 3⟩
  | .ld_E_IXH => .inr ⟨_, rfl, s.ldReg_untouched .e .ixh 2⟩
  | .ld_E_IXL => .inr ⟨_, rfl, s.ldReg_untouched .e .ixl 2⟩
  | .ld_E_atIXd d => .inr ⟨_, rfl, s.ldFromMem_untouched .e (displaced s.ix d) 3⟩
  | .ld_IXH_B => .inr ⟨_, rfl, s.ldReg_untouched .ixh .b 2⟩
  | .ld_IXH_C => .inr ⟨_, rfl, s.ldReg_untouched .ixh .c 2⟩
  | .ld_IXH_D => .inr ⟨_, rfl, s.ldReg_untouched .ixh .d 2⟩
  | .ld_IXH_E => .inr ⟨_, rfl, s.ldReg_untouched .ixh .e 2⟩
  | .ld_IXH_IXH => .inr ⟨_, rfl, s.ldReg_untouched .ixh .ixh 2⟩
  | .ld_IXH_IXL => .inr ⟨_, rfl, s.ldReg_untouched .ixh .ixl 2⟩
  | .ld_H_atIXd d => .inr ⟨_, rfl, s.ldFromMem_untouched .h (displaced s.ix d) 3⟩
  | .ld_IXH_A => .inr ⟨_, rfl, s.ldReg_untouched .ixh .a 2⟩
  | .ld_IXL_B => .inr ⟨_, rfl, s.ldReg_untouched .ixl .b 2⟩
  | .ld_IXL_C => .inr ⟨_, rfl, s.ldReg_untouched .ixl .c 2⟩
  | .ld_IXL_D => .inr ⟨_, rfl, s.ldReg_untouched .ixl .d 2⟩
  | .ld_IXL_E => .inr ⟨_, rfl, s.ldReg_untouched .ixl .e 2⟩
  | .ld_IXL_IXH => .inr ⟨_, rfl, s.ldReg_untouched .ixl .ixh 2⟩
  | .ld_IXL_IXL => .inr ⟨_, rfl, s.ldReg_untouched .ixl .ixl 2⟩
  | .ld_L_atIXd d => .inr ⟨_, rfl, s.ldFromMem_untouched .l (displaced s.ix d) 3⟩
  | .ld_IXL_A => .inr ⟨_, rfl, s.ldReg_untouched .ixl .a 2⟩
  | .ld_atIXd_B d => .inr ⟨_, rfl, s.ldToMem_untouched (displaced s.ix d) s.b 3⟩
  | .ld_atIXd_C d => .inr ⟨_, rfl, s.ldToMem_untouched (displaced s.ix d) s.c 3⟩
  | .ld_atIXd_D d => .inr ⟨_, rfl, s.ldToMem_untouched (displaced s.ix d) s.d 3⟩
  | .ld_atIXd_E d => .inr ⟨_, rfl, s.ldToMem_untouched (displaced s.ix d) s.e 3⟩
  | .ld_atIXd_H d => .inr ⟨_, rfl, s.ldToMem_untouched (displaced s.ix d) s.h 3⟩
  | .ld_atIXd_L d => .inr ⟨_, rfl, s.ldToMem_untouched (displaced s.ix d) s.l 3⟩
  | .ld_atIXd_A d => .inr ⟨_, rfl, s.ldToMem_untouched (displaced s.ix d) s.a 3⟩
  | .ld_A_IXH => .inr ⟨_, rfl, s.ldReg_untouched .a .ixh 2⟩
  | .ld_A_IXL => .inr ⟨_, rfl, s.ldReg_untouched .a .ixl 2⟩
  | .ld_A_atIXd d => .inr ⟨_, rfl, s.ldFromMem_untouched .a (displaced s.ix d) 3⟩
  | .add_A_IXH => .inr ⟨_, rfl, s.addA_untouched (.place (.reg .ixh)) 2⟩
  | .add_A_IXL => .inr ⟨_, rfl, s.addA_untouched (.place (.reg .ixl)) 2⟩
  | .add_A_atIXd d => .inr ⟨_, rfl, s.addA_untouched (.place (.atIX d)) 3⟩
  | .adc_A_IXH => .inr ⟨_, rfl, s.adcA_untouched (.place (.reg .ixh)) 2⟩
  | .adc_A_IXL => .inr ⟨_, rfl, s.adcA_untouched (.place (.reg .ixl)) 2⟩
  | .adc_A_atIXd d => .inr ⟨_, rfl, s.adcA_untouched (.place (.atIX d)) 3⟩
  | .sub_IXH => .inr ⟨_, rfl, s.subA_untouched (.place (.reg .ixh)) 2⟩
  | .sub_IXL => .inr ⟨_, rfl, s.subA_untouched (.place (.reg .ixl)) 2⟩
  | .sub_atIXd d => .inr ⟨_, rfl, s.subA_untouched (.place (.atIX d)) 3⟩
  | .sbc_A_IXH => .inr ⟨_, rfl, s.sbcA_untouched (.place (.reg .ixh)) 2⟩
  | .sbc_A_IXL => .inr ⟨_, rfl, s.sbcA_untouched (.place (.reg .ixl)) 2⟩
  | .sbc_A_atIXd d => .inr ⟨_, rfl, s.sbcA_untouched (.place (.atIX d)) 3⟩
  | .and_IXH => .inr ⟨_, rfl, s.andA_untouched (.place (.reg .ixh)) 2⟩
  | .and_IXL => .inr ⟨_, rfl, s.andA_untouched (.place (.reg .ixl)) 2⟩
  | .and_atIXd d => .inr ⟨_, rfl, s.andA_untouched (.place (.atIX d)) 3⟩
  | .xor_IXH => .inr ⟨_, rfl, s.xorA_untouched (.place (.reg .ixh)) 2⟩
  | .xor_IXL => .inr ⟨_, rfl, s.xorA_untouched (.place (.reg .ixl)) 2⟩
  | .xor_atIXd d => .inr ⟨_, rfl, s.xorA_untouched (.place (.atIX d)) 3⟩
  | .or_IXH => .inr ⟨_, rfl, s.orA_untouched (.place (.reg .ixh)) 2⟩
  | .or_IXL => .inr ⟨_, rfl, s.orA_untouched (.place (.reg .ixl)) 2⟩
  | .or_atIXd d => .inr ⟨_, rfl, s.orA_untouched (.place (.atIX d)) 3⟩
  | .cp_IXH => .inr ⟨_, rfl, s.cpA_untouched (.place (.reg .ixh)) 2⟩
  | .cp_IXL => .inr ⟨_, rfl, s.cpA_untouched (.place (.reg .ixl)) 2⟩
  | .cp_atIXd d => .inr ⟨_, rfl, s.cpA_untouched (.place (.atIX d)) 3⟩
  | .pop_IX => .inr ⟨_, rfl, s.pop_untouched .ix 2⟩
  | .push_IX => .inr ⟨_, rfl, s.push_untouched .ix 2⟩
  | .ex_atSP_IX => .inr ⟨_, rfl, s.exchangeTop_untouched .ix 2⟩
  | .jp_IX => .inr ⟨_, rfl, s.goto_untouched s.ix⟩
  | .ld_SP_IX => .inr ⟨_, rfl, s.ldWord_untouched .sp s.ix 2⟩
  | .rlc_atIXd d => .inr ⟨_, rfl, s.shiftPlace_untouched .rlc (.atIX d) 4⟩
  | .rrc_atIXd d => .inr ⟨_, rfl, s.shiftPlace_untouched .rrc (.atIX d) 4⟩
  | .rl_atIXd d => .inr ⟨_, rfl, s.shiftPlace_untouched .rl (.atIX d) 4⟩
  | .rr_atIXd d => .inr ⟨_, rfl, s.shiftPlace_untouched .rr (.atIX d) 4⟩
  | .sla_atIXd d => .inr ⟨_, rfl, s.shiftPlace_untouched .sla (.atIX d) 4⟩
  | .sra_atIXd d => .inr ⟨_, rfl, s.shiftPlace_untouched .sra (.atIX d) 4⟩
  | .sll_atIXd d => .inr ⟨_, rfl, s.shiftPlace_untouched .sll (.atIX d) 4⟩
  | .srl_atIXd d => .inr ⟨_, rfl, s.shiftPlace_untouched .srl (.atIX d) 4⟩
  | .bit_b_atIXd b d => .inr ⟨_, rfl, s.testBit_untouched b (.atIX d) 4⟩
  | .res_b_atIXd b d => .inr ⟨_, rfl, s.modifyPlace_untouched (resetBit b) (.atIX d) 4⟩
  | .set_b_atIXd b d => .inr ⟨_, rfl, s.modifyPlace_untouched (setBit b) (.atIX d) 4⟩
  | .add_IY_BC => .inr ⟨_, rfl, s.addWord_untouched .iy .bc 2⟩
  | .add_IY_DE => .inr ⟨_, rfl, s.addWord_untouched .iy .de 2⟩
  | .add_IY_IY => .inr ⟨_, rfl, s.addWord_untouched .iy .iy 2⟩
  | .add_IY_SP => .inr ⟨_, rfl, s.addWord_untouched .iy .sp 2⟩
  | .ld_IY_nn nn => .inr ⟨_, rfl, s.ldWord_untouched .iy nn 4⟩
  | .ld_atNn_IY nn => .inr ⟨_, rfl, s.ldWordToMem_untouched nn s.iy 4⟩
  | .ld_IY_atNn nn => .inr ⟨_, rfl, s.ldWordFromMem_untouched .iy nn 4⟩
  | .inc_IY => .inr ⟨_, rfl, s.incWord_untouched .iy 2⟩
  | .dec_IY => .inr ⟨_, rfl, s.decWord_untouched .iy 2⟩
  | .inc_IYH => .inr ⟨_, rfl, s.incPlace_untouched (.reg .iyh) 2⟩
  | .dec_IYH => .inr ⟨_, rfl, s.decPlace_untouched (.reg .iyh) 2⟩
  | .ld_IYH_n n => .inr ⟨_, rfl, s.ldImm_untouched .iyh n 3⟩
  | .inc_IYL => .inr ⟨_, rfl, s.incPlace_untouched (.reg .iyl) 2⟩
  | .dec_IYL => .inr ⟨_, rfl, s.decPlace_untouched (.reg .iyl) 2⟩
  | .ld_IYL_n n => .inr ⟨_, rfl, s.ldImm_untouched .iyl n 3⟩
  | .inc_atIYd d => .inr ⟨_, rfl, s.incPlace_untouched (.atIY d) 3⟩
  | .dec_atIYd d => .inr ⟨_, rfl, s.decPlace_untouched (.atIY d) 3⟩
  | .ld_atIYd_n d n => .inr ⟨_, rfl, s.ldToMem_untouched (displaced s.iy d) n 4⟩
  | .ld_B_IYH => .inr ⟨_, rfl, s.ldReg_untouched .b .iyh 2⟩
  | .ld_B_IYL => .inr ⟨_, rfl, s.ldReg_untouched .b .iyl 2⟩
  | .ld_B_atIYd d => .inr ⟨_, rfl, s.ldFromMem_untouched .b (displaced s.iy d) 3⟩
  | .ld_C_IYH => .inr ⟨_, rfl, s.ldReg_untouched .c .iyh 2⟩
  | .ld_C_IYL => .inr ⟨_, rfl, s.ldReg_untouched .c .iyl 2⟩
  | .ld_C_atIYd d => .inr ⟨_, rfl, s.ldFromMem_untouched .c (displaced s.iy d) 3⟩
  | .ld_D_IYH => .inr ⟨_, rfl, s.ldReg_untouched .d .iyh 2⟩
  | .ld_D_IYL => .inr ⟨_, rfl, s.ldReg_untouched .d .iyl 2⟩
  | .ld_D_atIYd d => .inr ⟨_, rfl, s.ldFromMem_untouched .d (displaced s.iy d) 3⟩
  | .ld_E_IYH => .inr ⟨_, rfl, s.ldReg_untouched .e .iyh 2⟩
  | .ld_E_IYL => .inr ⟨_, rfl, s.ldReg_untouched .e .iyl 2⟩
  | .ld_E_atIYd d => .inr ⟨_, rfl, s.ldFromMem_untouched .e (displaced s.iy d) 3⟩
  | .ld_IYH_B => .inr ⟨_, rfl, s.ldReg_untouched .iyh .b 2⟩
  | .ld_IYH_C => .inr ⟨_, rfl, s.ldReg_untouched .iyh .c 2⟩
  | .ld_IYH_D => .inr ⟨_, rfl, s.ldReg_untouched .iyh .d 2⟩
  | .ld_IYH_E => .inr ⟨_, rfl, s.ldReg_untouched .iyh .e 2⟩
  | .ld_IYH_IYH => .inr ⟨_, rfl, s.ldReg_untouched .iyh .iyh 2⟩
  | .ld_IYH_IYL => .inr ⟨_, rfl, s.ldReg_untouched .iyh .iyl 2⟩
  | .ld_H_atIYd d => .inr ⟨_, rfl, s.ldFromMem_untouched .h (displaced s.iy d) 3⟩
  | .ld_IYH_A => .inr ⟨_, rfl, s.ldReg_untouched .iyh .a 2⟩
  | .ld_IYL_B => .inr ⟨_, rfl, s.ldReg_untouched .iyl .b 2⟩
  | .ld_IYL_C => .inr ⟨_, rfl, s.ldReg_untouched .iyl .c 2⟩
  | .ld_IYL_D => .inr ⟨_, rfl, s.ldReg_untouched .iyl .d 2⟩
  | .ld_IYL_E => .inr ⟨_, rfl, s.ldReg_untouched .iyl .e 2⟩
  | .ld_IYL_IYH => .inr ⟨_, rfl, s.ldReg_untouched .iyl .iyh 2⟩
  | .ld_IYL_IYL => .inr ⟨_, rfl, s.ldReg_untouched .iyl .iyl 2⟩
  | .ld_L_atIYd d => .inr ⟨_, rfl, s.ldFromMem_untouched .l (displaced s.iy d) 3⟩
  | .ld_IYL_A => .inr ⟨_, rfl, s.ldReg_untouched .iyl .a 2⟩
  | .ld_atIYd_B d => .inr ⟨_, rfl, s.ldToMem_untouched (displaced s.iy d) s.b 3⟩
  | .ld_atIYd_C d => .inr ⟨_, rfl, s.ldToMem_untouched (displaced s.iy d) s.c 3⟩
  | .ld_atIYd_D d => .inr ⟨_, rfl, s.ldToMem_untouched (displaced s.iy d) s.d 3⟩
  | .ld_atIYd_E d => .inr ⟨_, rfl, s.ldToMem_untouched (displaced s.iy d) s.e 3⟩
  | .ld_atIYd_H d => .inr ⟨_, rfl, s.ldToMem_untouched (displaced s.iy d) s.h 3⟩
  | .ld_atIYd_L d => .inr ⟨_, rfl, s.ldToMem_untouched (displaced s.iy d) s.l 3⟩
  | .ld_atIYd_A d => .inr ⟨_, rfl, s.ldToMem_untouched (displaced s.iy d) s.a 3⟩
  | .ld_A_IYH => .inr ⟨_, rfl, s.ldReg_untouched .a .iyh 2⟩
  | .ld_A_IYL => .inr ⟨_, rfl, s.ldReg_untouched .a .iyl 2⟩
  | .ld_A_atIYd d => .inr ⟨_, rfl, s.ldFromMem_untouched .a (displaced s.iy d) 3⟩
  | .add_A_IYH => .inr ⟨_, rfl, s.addA_untouched (.place (.reg .iyh)) 2⟩
  | .add_A_IYL => .inr ⟨_, rfl, s.addA_untouched (.place (.reg .iyl)) 2⟩
  | .add_A_atIYd d => .inr ⟨_, rfl, s.addA_untouched (.place (.atIY d)) 3⟩
  | .adc_A_IYH => .inr ⟨_, rfl, s.adcA_untouched (.place (.reg .iyh)) 2⟩
  | .adc_A_IYL => .inr ⟨_, rfl, s.adcA_untouched (.place (.reg .iyl)) 2⟩
  | .adc_A_atIYd d => .inr ⟨_, rfl, s.adcA_untouched (.place (.atIY d)) 3⟩
  | .sub_IYH => .inr ⟨_, rfl, s.subA_untouched (.place (.reg .iyh)) 2⟩
  | .sub_IYL => .inr ⟨_, rfl, s.subA_untouched (.place (.reg .iyl)) 2⟩
  | .sub_atIYd d => .inr ⟨_, rfl, s.subA_untouched (.place (.atIY d)) 3⟩
  | .sbc_A_IYH => .inr ⟨_, rfl, s.sbcA_untouched (.place (.reg .iyh)) 2⟩
  | .sbc_A_IYL => .inr ⟨_, rfl, s.sbcA_untouched (.place (.reg .iyl)) 2⟩
  | .sbc_A_atIYd d => .inr ⟨_, rfl, s.sbcA_untouched (.place (.atIY d)) 3⟩
  | .and_IYH => .inr ⟨_, rfl, s.andA_untouched (.place (.reg .iyh)) 2⟩
  | .and_IYL => .inr ⟨_, rfl, s.andA_untouched (.place (.reg .iyl)) 2⟩
  | .and_atIYd d => .inr ⟨_, rfl, s.andA_untouched (.place (.atIY d)) 3⟩
  | .xor_IYH => .inr ⟨_, rfl, s.xorA_untouched (.place (.reg .iyh)) 2⟩
  | .xor_IYL => .inr ⟨_, rfl, s.xorA_untouched (.place (.reg .iyl)) 2⟩
  | .xor_atIYd d => .inr ⟨_, rfl, s.xorA_untouched (.place (.atIY d)) 3⟩
  | .or_IYH => .inr ⟨_, rfl, s.orA_untouched (.place (.reg .iyh)) 2⟩
  | .or_IYL => .inr ⟨_, rfl, s.orA_untouched (.place (.reg .iyl)) 2⟩
  | .or_atIYd d => .inr ⟨_, rfl, s.orA_untouched (.place (.atIY d)) 3⟩
  | .cp_IYH => .inr ⟨_, rfl, s.cpA_untouched (.place (.reg .iyh)) 2⟩
  | .cp_IYL => .inr ⟨_, rfl, s.cpA_untouched (.place (.reg .iyl)) 2⟩
  | .cp_atIYd d => .inr ⟨_, rfl, s.cpA_untouched (.place (.atIY d)) 3⟩
  | .pop_IY => .inr ⟨_, rfl, s.pop_untouched .iy 2⟩
  | .push_IY => .inr ⟨_, rfl, s.push_untouched .iy 2⟩
  | .ex_atSP_IY => .inr ⟨_, rfl, s.exchangeTop_untouched .iy 2⟩
  | .jp_IY => .inr ⟨_, rfl, s.goto_untouched s.iy⟩
  | .ld_SP_IY => .inr ⟨_, rfl, s.ldWord_untouched .sp s.iy 2⟩
  | .rlc_atIYd d => .inr ⟨_, rfl, s.shiftPlace_untouched .rlc (.atIY d) 4⟩
  | .rrc_atIYd d => .inr ⟨_, rfl, s.shiftPlace_untouched .rrc (.atIY d) 4⟩
  | .rl_atIYd d => .inr ⟨_, rfl, s.shiftPlace_untouched .rl (.atIY d) 4⟩
  | .rr_atIYd d => .inr ⟨_, rfl, s.shiftPlace_untouched .rr (.atIY d) 4⟩
  | .sla_atIYd d => .inr ⟨_, rfl, s.shiftPlace_untouched .sla (.atIY d) 4⟩
  | .sra_atIYd d => .inr ⟨_, rfl, s.shiftPlace_untouched .sra (.atIY d) 4⟩
  | .sll_atIYd d => .inr ⟨_, rfl, s.shiftPlace_untouched .sll (.atIY d) 4⟩
  | .srl_atIYd d => .inr ⟨_, rfl, s.shiftPlace_untouched .srl (.atIY d) 4⟩
  | .bit_b_atIYd b d => .inr ⟨_, rfl, s.testBit_untouched b (.atIY d) 4⟩
  | .res_b_atIYd b d => .inr ⟨_, rfl, s.modifyPlace_untouched (resetBit b) (.atIY d) 4⟩
  | .set_b_atIYd b d => .inr ⟨_, rfl, s.modifyPlace_untouched (setBit b) (.atIY d) 4⟩

end Sys2Proof.Machine
end

