-- ==== Sys2Proof/Laws/Flags.lean ====
section
/-! SUPPORT. The flag computations of Sys2Proof/Machine/Flags.lean, which work on bits, against the ones of
Sys2Proof/Safety.lean, which work on numbers (10_state.md rules R40 to R47). -/

namespace Sys2Proof.Machine

/-- The flags after a write, from what the update says (rule R46). -/
theorem State.writeFlags_f_of {upd : FlagUpdate} {s : State} {f : Flags}
    (h : (upd s.f (freeFlagsAt s.draws)).redrawn s.draws = f) : (s.writeFlags upd).f = f := h

/-- Bit 7 of a byte is its being at least 128. -/
theorem byte_msb (x : Byte) : x.msb = decide (128 ≤ x.toNat) := BitVec.msb_eq_decide x

/-- Bit 15 of a word is its being at least 32768. -/
theorem word_msb (x : Word) : x.msb = decide (32768 ≤ x.toNat) := BitVec.msb_eq_decide x

/-- Being zero, as a number. -/
theorem byte_beq_zero (x : Byte) : (x == 0) = decide (x.toNat = 0) := by
  rw [Bool.eq_iff_iff]
  simp [← BitVec.toNat_inj]

/-- Being zero, as a number. -/
theorem word_beq_zero (x : Word) : (x == 0) = decide (x.toNat = 0) := by
  rw [Bool.eq_iff_iff]
  simp [← BitVec.toNat_inj]

/-- The flags of an 8-bit sum. -/
theorem add8Flags_eq (a v : Byte) (cin : Bool) (old : Flags) (n : Nat) :
    (add8Flags a v cin old (freeFlagsAt n)).redrawn n = sumFlags a v cin n := by
  have ha := a.isLt
  have hv := v.isLt
  have hc : cin.toNat ≤ 1 := Bool.toNat_le cin
  have hr : (add8 a v cin).toNat = (a.toNat + v.toNat + cin.toNat) % 256 := BitVec.toNat_ofNat _ 8
  ext1
  · show (add8 a v cin).msb = _
    rw [byte_msb, hr]
    rfl
  · show (add8 a v cin == 0) = _
    rw [byte_beq_zero, hr]
    rfl
  · rfl
  · exact decide_eq_decide.2 (by unfold lowNibble; omega)
  · rfl
  · simp only [Flags.redrawn, add8Flags, sumFlags, fits8, byte_msb, hr, BitVec.toInt_eq_toNat_cond]
    rw [Bool.eq_iff_iff]
    simp
    split <;> split <;> omega
  · rfl
  · exact decide_eq_decide.2 (by omega)

/-- The flags of an 8-bit difference. -/
theorem sub8Flags_eq (a v : Byte) (cin : Bool) (old : Flags) (n : Nat) :
    (sub8Flags a v cin old (freeFlagsAt n)).redrawn n = differenceFlags a v cin n := by
  have ha := a.isLt
  have hv := v.isLt
  have hc : cin.toNat ≤ 1 := Bool.toNat_le cin
  have hr : ((sub8 a v cin).toNat : Int) = ((a.toNat : Int) - v.toNat - cin.toNat) % 256 := by
    rw [sub8, BitVec.toNat_ofInt, Int.toNat_of_nonneg (Int.emod_nonneg _ (by decide))]
    rfl
  ext1
  · show (sub8 a v cin).msb = _
    rw [byte_msb]
    exact decide_eq_decide.2 (by rw [← hr]; omega)
  · show (sub8 a v cin == 0) = _
    rw [byte_beq_zero]
    exact decide_eq_decide.2 (by rw [← hr]; omega)
  · rfl
  · exact decide_eq_decide.2 (by unfold lowNibble; omega)
  · rfl
  · simp only [Flags.redrawn, sub8Flags, differenceFlags, fits8, byte_msb, BitVec.toInt_eq_toNat_cond]
    rw [Bool.eq_iff_iff]
    simp
    split <;> split <;> omega
  · rfl
  · exact decide_eq_decide.2 (by omega)

/-- The flags of `v + 1`, `C` kept. -/
theorem inc8Flags_eq (v : Byte) (old : Flags) (n : Nat) :
    (inc8Flags v old (freeFlagsAt n)).redrawn n = { sumFlags v 1 false n with c := old.c } := by
  have hv := v.isLt
  have hr : (v + 1).toNat = (v.toNat + 1) % 256 := BitVec.toNat_add v 1
  ext1
  · show (v + 1).msb = _
    rw [byte_msb, hr]
    rfl
  · show (v + 1 == 0) = _
    rw [byte_beq_zero, hr]
    rfl
  · rfl
  · simp only [Flags.redrawn, inc8Flags, sumFlags, lowNibble]
    rw [Bool.eq_iff_iff]
    simp
    omega
  · rfl
  · have h : ∀ x : BitVec 8, (x == 0x7F#8) = !fits8 (x.toInt + (1#8).toInt + false.toNat) := by decide
    exact h v
  · rfl
  · rfl

/-- The flags of `v - 1`, `C` kept. -/
theorem dec8Flags_eq (v : Byte) (old : Flags) (n : Nat) :
    (dec8Flags v old (freeFlagsAt n)).redrawn n = { differenceFlags v 1 false n with c := old.c } := by
  have hs : ∀ x : BitVec 8, (x - 1#8).msb = decide (128 ≤ ((x.toNat : Int) - (1#8).toNat - false.toNat) % 256) := by
    decide
  have hz : ∀ x : BitVec 8, (x - 1#8 == 0#8) = decide (((x.toNat : Int) - (1#8).toNat - false.toNat) % 256 = 0) := by
    decide
  have hh : ∀ x : BitVec 8,
      (lowNibble x == 0) = decide ((x.toNat : Int) % 16 - (1#8).toNat % 16 - false.toNat < 0) := by decide
  have ho : ∀ x : BitVec 8, (x == 0x80#8) = !fits8 (x.toInt - (1#8).toInt - false.toNat) := by decide
  ext1
  · exact hs v
  · exact hz v
  · rfl
  · exact hh v
  · rfl
  · exact ho v
  · rfl
  · rfl

/-- The flags of a 16-bit sum with carry. -/
theorem adc16Flags_eq (a v : Word) (cin : Bool) (old : Flags) (n : Nat) :
    (adc16Flags a v cin old (freeFlagsAt n)).redrawn n = wordSumFlags a v cin n := by
  have ha := a.isLt
  have hv := v.isLt
  have hc : cin.toNat ≤ 1 := Bool.toNat_le cin
  have hr : (adc16 a v cin).toNat = (a.toNat + v.toNat + cin.toNat) % 65536 := BitVec.toNat_ofNat _ 16
  ext1
  · show (adc16 a v cin).msb = _
    rw [word_msb, hr]
    rfl
  · show (adc16 a v cin == 0) = _
    rw [word_beq_zero, hr]
    rfl
  · rfl
  · rfl
  · rfl
  · simp only [Flags.redrawn, adc16Flags, wordSumFlags, fits16, word_msb, hr, BitVec.toInt_eq_toNat_cond]
    rw [Bool.eq_iff_iff]
    simp
    split <;> split <;> omega
  · rfl
  · exact decide_eq_decide.2 (by omega)

/-- The flags of a 16-bit difference with borrow. -/
theorem sbc16Flags_eq (a v : Word) (cin : Bool) (old : Flags) (n : Nat) :
    (sbc16Flags a v cin old (freeFlagsAt n)).redrawn n = wordDifferenceFlags a v cin n := by
  have ha := a.isLt
  have hv := v.isLt
  have hc : cin.toNat ≤ 1 := Bool.toNat_le cin
  have hr : ((sbc16 a v cin).toNat : Int) = ((a.toNat : Int) - v.toNat - cin.toNat) % 65536 := by
    rw [sbc16, BitVec.toNat_ofInt, Int.toNat_of_nonneg (Int.emod_nonneg _ (by decide))]
    rfl
  ext1
  · show (sbc16 a v cin).msb = _
    rw [word_msb]
    exact decide_eq_decide.2 (by rw [← hr]; omega)
  · show (sbc16 a v cin == 0) = _
    rw [word_beq_zero]
    exact decide_eq_decide.2 (by rw [← hr]; omega)
  · rfl
  · rfl
  · rfl
  · simp only [Flags.redrawn, sbc16Flags, wordDifferenceFlags, fits16, word_msb, BitVec.toInt_eq_toNat_cond]
    rw [Bool.eq_iff_iff]
    simp
    split <;> split <;> omega
  · rfl
  · exact decide_eq_decide.2 (by omega)

/-- Parity, by bits and by counting. -/
theorem parityEven_eq (v : Byte) : parityEven v = evenOnes v := by
  have h : ∀ x : BitVec 8, parityEven x = evenOnes x := by decide
  exact h v

/-- The flags of a byte whose `P/V` is its parity, with `C` then given. -/
theorem szpFlags_eq (v : Byte) (h c : Bool) (old : Flags) (n : Nat) :
    Flags.redrawn { szpFlags v h old (freeFlagsAt n) with c := c } n = parityFlags v h c n := by
  ext1
  · exact byte_msb v
  · exact byte_beq_zero v
  · rfl
  · rfl
  · rfl
  · exact parityEven_eq v
  · rfl
  · rfl

end Sys2Proof.Machine
end

