-- ==== Sys2Proof/Laws/Forms.lean ====
section
/-! SUPPORT. For each list of forms one lemma: every form of it is encoded as listed, and its meaning is the family's
shared operation on the listed operand. The claims about the forms then follow from one proof about the operation. -/

namespace Sys2Proof.Machine

/-- The opcode byte of `BIT`, `RES` and `SET` as the claims compute it. -/
theorem bitOpcode_ofNat (base b : Nat) : bitOpcode (BitVec.ofNat 8 base) b = BitVec.ofNat 8 (base + 8 * b) :=
  (BitVec.ofNat_add base (8 * b)).symm

/-- A property of every form of a list, from the property of each. -/
theorem forms_cons {α : Type} {p : Form α → Prop} {x : Form α} {xs : List (Form α)} (h : p x) (k : ∀ y ∈ xs, p y) :
    ∀ y ∈ x :: xs, p y := List.forall_mem_cons.2 ⟨h, k⟩

theorem registerLoadForms_exec :
    ∀ x ∈ registerLoadForms, encode x.instr = x.bytes ∧
      ∀ s, exec x.instr s = .next (s.ldReg x.operand.1 x.operand.2 x.bytes.length) := by
  repeat refine forms_cons ⟨rfl, fun _ => rfl⟩ ?_
  exact List.forall_mem_nil _

theorem immediateLoadForms_exec (n : Byte) :
    ∀ x ∈ immediateLoadForms n, encode x.instr = x.bytes ∧
      ∀ s, exec x.instr s = .next (s.ldImm x.operand n x.bytes.length) := by
  repeat refine forms_cons ⟨rfl, fun _ => rfl⟩ ?_
  exact List.forall_mem_nil _

theorem byteLoadForms_exec (d : Byte) (nn : Word) :
    ∀ x ∈ byteLoadForms d nn, encode x.instr = x.bytes ∧
      ∀ s, exec x.instr s = .next (s.ldFromMem x.operand.1 (x.operand.2 s) x.bytes.length) := by
  repeat refine forms_cons ⟨rfl, fun _ => by simp only [indexed_eq_displaced]; rfl⟩ ?_
  exact List.forall_mem_nil _

theorem byteStoreForms_exec (n : Byte) (d : Byte) (nn : Word) :
    ∀ x ∈ byteStoreForms n d nn, encode x.instr = x.bytes ∧
      ∀ s, exec x.instr s = .next (s.ldToMem (x.operand.1 s) (x.operand.2 s) x.bytes.length) := by
  repeat refine forms_cons ⟨rfl, fun _ => by simp only [indexed_eq_displaced]; rfl⟩ ?_
  exact List.forall_mem_nil _

theorem wordLoadForms_exec (nn : Word) :
    ∀ x ∈ wordLoadForms nn, encode x.instr = x.bytes ∧
      ∀ s, exec x.instr s = .next (s.ldWord x.operand.1 (x.operand.2 s) x.bytes.length) := by
  repeat refine forms_cons ⟨rfl, fun _ => rfl⟩ ?_
  exact List.forall_mem_nil _

theorem wordFromMemoryForms_exec (nn : Word) :
    ∀ x ∈ wordFromMemoryForms nn, encode x.instr = x.bytes ∧
      ∀ s, exec x.instr s = .next (s.ldWordFromMem x.operand nn x.bytes.length) := by
  repeat refine forms_cons ⟨rfl, fun _ => rfl⟩ ?_
  exact List.forall_mem_nil _

theorem wordToMemoryForms_exec (nn : Word) :
    ∀ x ∈ wordToMemoryForms nn, encode x.instr = x.bytes ∧
      ∀ s, exec x.instr s = .next (s.ldWordToMem nn (s.reg16 x.operand) x.bytes.length) := by
  repeat refine forms_cons ⟨rfl, fun _ => rfl⟩ ?_
  exact List.forall_mem_nil _

theorem addForms_exec (n : Byte) (d : Byte) :
    ∀ x ∈ addForms n d, encode x.instr = x.bytes ∧
      ∀ s, exec x.instr s = .next (s.addA x.operand x.bytes.length) := by
  repeat refine forms_cons ⟨rfl, fun _ => rfl⟩ ?_
  exact List.forall_mem_nil _

theorem adcForms_exec (n : Byte) (d : Byte) :
    ∀ x ∈ adcForms n d, encode x.instr = x.bytes ∧
      ∀ s, exec x.instr s = .next (s.adcA x.operand x.bytes.length) := by
  repeat refine forms_cons ⟨rfl, fun _ => rfl⟩ ?_
  exact List.forall_mem_nil _

theorem subForms_exec (n : Byte) (d : Byte) :
    ∀ x ∈ subForms n d, encode x.instr = x.bytes ∧
      ∀ s, exec x.instr s = .next (s.subA x.operand x.bytes.length) := by
  repeat refine forms_cons ⟨rfl, fun _ => rfl⟩ ?_
  exact List.forall_mem_nil _

theorem sbcForms_exec (n : Byte) (d : Byte) :
    ∀ x ∈ sbcForms n d, encode x.instr = x.bytes ∧
      ∀ s, exec x.instr s = .next (s.sbcA x.operand x.bytes.length) := by
  repeat refine forms_cons ⟨rfl, fun _ => rfl⟩ ?_
  exact List.forall_mem_nil _

theorem cpForms_exec (n : Byte) (d : Byte) :
    ∀ x ∈ cpForms n d, encode x.instr = x.bytes ∧
      ∀ s, exec x.instr s = .next (s.cpA x.operand x.bytes.length) := by
  repeat refine forms_cons ⟨rfl, fun _ => rfl⟩ ?_
  exact List.forall_mem_nil _

theorem andForms_exec (n : Byte) (d : Byte) :
    ∀ x ∈ andForms n d, encode x.instr = x.bytes ∧
      ∀ s, exec x.instr s = .next (s.andA x.operand x.bytes.length) := by
  repeat refine forms_cons ⟨rfl, fun _ => rfl⟩ ?_
  exact List.forall_mem_nil _

theorem orForms_exec (n : Byte) (d : Byte) :
    ∀ x ∈ orForms n d, encode x.instr = x.bytes ∧
      ∀ s, exec x.instr s = .next (s.orA x.operand x.bytes.length) := by
  repeat refine forms_cons ⟨rfl, fun _ => rfl⟩ ?_
  exact List.forall_mem_nil _

theorem xorForms_exec (n : Byte) (d : Byte) :
    ∀ x ∈ xorForms n d, encode x.instr = x.bytes ∧
      ∀ s, exec x.instr s = .next (s.xorA x.operand x.bytes.length) := by
  repeat refine forms_cons ⟨rfl, fun _ => rfl⟩ ?_
  exact List.forall_mem_nil _

theorem incForms_exec (d : Byte) :
    ∀ x ∈ incForms d, encode x.instr = x.bytes ∧
      ∀ s, exec x.instr s = .next (s.incPlace x.operand x.bytes.length) := by
  repeat refine forms_cons ⟨rfl, fun _ => rfl⟩ ?_
  exact List.forall_mem_nil _

theorem decForms_exec (d : Byte) :
    ∀ x ∈ decForms d, encode x.instr = x.bytes ∧
      ∀ s, exec x.instr s = .next (s.decPlace x.operand x.bytes.length) := by
  repeat refine forms_cons ⟨rfl, fun _ => rfl⟩ ?_
  exact List.forall_mem_nil _

theorem incWordForms_exec :
    ∀ x ∈ incWordForms, encode x.instr = x.bytes ∧
      ∀ s, exec x.instr s = .next (s.incWord x.operand x.bytes.length) := by
  repeat refine forms_cons ⟨rfl, fun _ => rfl⟩ ?_
  exact List.forall_mem_nil _

theorem decWordForms_exec :
    ∀ x ∈ decWordForms, encode x.instr = x.bytes ∧
      ∀ s, exec x.instr s = .next (s.decWord x.operand x.bytes.length) := by
  repeat refine forms_cons ⟨rfl, fun _ => rfl⟩ ?_
  exact List.forall_mem_nil _

theorem addWordForms_exec :
    ∀ x ∈ addWordForms, encode x.instr = x.bytes ∧
      (∀ s, exec x.instr s = .next (s.addWord x.operand.1 x.operand.2 x.bytes.length)) ∧ x.operand.1 ≠ .af := by
  repeat refine forms_cons ⟨rfl, fun _ => rfl, by decide⟩ ?_
  exact List.forall_mem_nil _

theorem adcWordForms_exec :
    ∀ x ∈ adcWordForms, encode x.instr = x.bytes ∧
      (∀ s, exec x.instr s = .next (s.adcHL x.operand)) ∧ x.bytes.length = 2 := by
  repeat refine forms_cons ⟨rfl, fun _ => rfl, by decide⟩ ?_
  exact List.forall_mem_nil _

theorem sbcWordForms_exec :
    ∀ x ∈ sbcWordForms, encode x.instr = x.bytes ∧
      (∀ s, exec x.instr s = .next (s.sbcHL x.operand)) ∧ x.bytes.length = 2 := by
  repeat refine forms_cons ⟨rfl, fun _ => rfl, by decide⟩ ?_
  exact List.forall_mem_nil _

theorem bitForms_exec (b : Nat) (d : Byte) :
    ∀ x ∈ bitForms b d, encode x.instr = x.bytes ∧
      ∀ s, exec x.instr s = .next (s.testBit b x.operand x.bytes.length) := by
  repeat refine forms_cons ⟨by rw [← bitOpcode_ofNat]; rfl, fun _ => rfl⟩ ?_
  exact List.forall_mem_nil _

theorem resForms_exec (b : Nat) (d : Byte) :
    ∀ x ∈ resForms b d, encode x.instr = x.bytes ∧
      ∀ s, exec x.instr s = .next (s.modifyPlace (resetBit b) x.operand x.bytes.length) := by
  repeat refine forms_cons ⟨by rw [← bitOpcode_ofNat]; rfl, fun _ => rfl⟩ ?_
  exact List.forall_mem_nil _

theorem setForms_exec (b : Nat) (d : Byte) :
    ∀ x ∈ setForms b d, encode x.instr = x.bytes ∧
      ∀ s, exec x.instr s = .next (s.modifyPlace (setBit b) x.operand x.bytes.length) := by
  repeat refine forms_cons ⟨by rw [← bitOpcode_ofNat]; rfl, fun _ => rfl⟩ ?_
  exact List.forall_mem_nil _

theorem rlcForms_exec (d : Byte) :
    ∀ x ∈ rlcForms d, encode x.instr = x.bytes ∧
      ∀ s, exec x.instr s = .next (s.shiftPlace .rlc x.operand x.bytes.length) := by
  repeat refine forms_cons ⟨rfl, fun _ => rfl⟩ ?_
  exact List.forall_mem_nil _

theorem rlForms_exec (d : Byte) :
    ∀ x ∈ rlForms d, encode x.instr = x.bytes ∧
      ∀ s, exec x.instr s = .next (s.shiftPlace .rl x.operand x.bytes.length) := by
  repeat refine forms_cons ⟨rfl, fun _ => rfl⟩ ?_
  exact List.forall_mem_nil _

theorem rrcForms_exec (d : Byte) :
    ∀ x ∈ rrcForms d, encode x.instr = x.bytes ∧
      ∀ s, exec x.instr s = .next (s.shiftPlace .rrc x.operand x.bytes.length) := by
  repeat refine forms_cons ⟨rfl, fun _ => rfl⟩ ?_
  exact List.forall_mem_nil _

theorem rrForms_exec (d : Byte) :
    ∀ x ∈ rrForms d, encode x.instr = x.bytes ∧
      ∀ s, exec x.instr s = .next (s.shiftPlace .rr x.operand x.bytes.length) := by
  repeat refine forms_cons ⟨rfl, fun _ => rfl⟩ ?_
  exact List.forall_mem_nil _

theorem slaForms_exec (d : Byte) :
    ∀ x ∈ slaForms d, encode x.instr = x.bytes ∧
      ∀ s, exec x.instr s = .next (s.shiftPlace .sla x.operand x.bytes.length) := by
  repeat refine forms_cons ⟨rfl, fun _ => rfl⟩ ?_
  exact List.forall_mem_nil _

theorem sllForms_exec (d : Byte) :
    ∀ x ∈ sllForms d, encode x.instr = x.bytes ∧
      ∀ s, exec x.instr s = .next (s.shiftPlace .sll x.operand x.bytes.length) := by
  repeat refine forms_cons ⟨rfl, fun _ => rfl⟩ ?_
  exact List.forall_mem_nil _

theorem sraForms_exec (d : Byte) :
    ∀ x ∈ sraForms d, encode x.instr = x.bytes ∧
      ∀ s, exec x.instr s = .next (s.shiftPlace .sra x.operand x.bytes.length) := by
  repeat refine forms_cons ⟨rfl, fun _ => rfl⟩ ?_
  exact List.forall_mem_nil _

theorem srlForms_exec (d : Byte) :
    ∀ x ∈ srlForms d, encode x.instr = x.bytes ∧
      ∀ s, exec x.instr s = .next (s.shiftPlace .srl x.operand x.bytes.length) := by
  repeat refine forms_cons ⟨rfl, fun _ => rfl⟩ ?_
  exact List.forall_mem_nil _

theorem jumpRegisterForms_exec :
    ∀ x ∈ jumpRegisterForms, encode x.instr = x.bytes ∧
      ∀ s, exec x.instr s = .next (s.goto (x.operand s)) := by
  repeat refine forms_cons ⟨rfl, fun _ => rfl⟩ ?_
  exact List.forall_mem_nil _

theorem jumpIfForms_exec (nn : Word) :
    ∀ x ∈ jumpIfForms nn, encode x.instr = x.bytes ∧
      ∀ s, exec x.instr s = .next (if x.operand s.f then s.goto nn else s.advance x.bytes.length) := by
  repeat refine forms_cons ⟨rfl, fun _ => rfl⟩ ?_
  exact List.forall_mem_nil _

theorem jumpRelativeIfForms_exec (e : Byte) :
    ∀ x ∈ jumpRelativeIfForms e, encode x.instr = x.bytes ∧
      ∀ s, exec x.instr s = .next (if x.operand s.f then s.jumpRelative e else s.advance x.bytes.length) := by
  repeat refine forms_cons ⟨rfl, fun _ => rfl⟩ ?_
  exact List.forall_mem_nil _

theorem callIfForms_exec (nn : Word) :
    ∀ x ∈ callIfForms nn, encode x.instr = x.bytes ∧
      (∀ s, exec x.instr s = .next (if x.operand s.f then s.call nn else s.advance x.bytes.length)) ∧ x.bytes.length = 3 := by
  repeat refine forms_cons ⟨rfl, fun _ => rfl, rfl⟩ ?_
  exact List.forall_mem_nil _

theorem returnIfForms_exec :
    ∀ x ∈ returnIfForms, encode x.instr = x.bytes ∧
      ∀ s, exec x.instr s = .next (if x.operand s.f then s.ret else s.advance x.bytes.length) := by
  repeat refine forms_cons ⟨rfl, fun _ => rfl⟩ ?_
  exact List.forall_mem_nil _

theorem restartForms_exec :
    ∀ x ∈ restartForms, encode x.instr = x.bytes ∧
      ∀ s, exec x.instr s = .next ((s.push16 (s.pc + BitVec.ofNat 16 x.bytes.length)).goto x.operand) := by
  repeat refine forms_cons ⟨rfl, fun _ => rfl⟩ ?_
  exact List.forall_mem_nil _

theorem exchangeTopForms_exec :
    ∀ x ∈ exchangeTopForms, encode x.instr = x.bytes ∧
      (∀ s, exec x.instr s = .next (s.exchangeTop x.operand x.bytes.length)) ∧ x.operand ≠ .sp := by
  repeat refine forms_cons ⟨rfl, fun _ => rfl, by decide⟩ ?_
  exact List.forall_mem_nil _

theorem pushForms_exec :
    ∀ x ∈ pushForms, encode x.instr = x.bytes ∧
      ∀ s, exec x.instr s = .next (s.push x.operand x.bytes.length) := by
  repeat refine forms_cons ⟨rfl, fun _ => rfl⟩ ?_
  exact List.forall_mem_nil _

theorem popForms_exec :
    ∀ x ∈ popForms, encode x.instr = x.bytes ∧
      (∀ s, exec x.instr s = .next (s.pop x.operand x.bytes.length)) ∧ x.operand ≠ .sp := by
  repeat refine forms_cons ⟨rfl, fun _ => rfl, by decide⟩ ?_
  exact List.forall_mem_nil _

theorem inputForms_exec :
    ∀ x ∈ inputForms, encode x.instr = x.bytes ∧
      (∀ s, exec x.instr s = .next (s.inReg x.operand)) ∧ x.bytes.length = 2 := by
  repeat refine forms_cons ⟨rfl, fun _ => rfl, by decide⟩ ?_
  exact List.forall_mem_nil _

theorem outputForms_exec :
    ∀ x ∈ outputForms, encode x.instr = x.bytes ∧
      (∀ s, exec x.instr s = .next (s.outPort (x.operand s))) ∧ x.bytes.length = 2 := by
  repeat refine forms_cons ⟨rfl, fun _ => rfl, by decide⟩ ?_
  exact List.forall_mem_nil _

theorem modeForms_exec :
    ∀ x ∈ modeForms, encode x.instr = x.bytes ∧
      ∀ s, exec x.instr s = .next (State.advance x.bytes.length { s with im := x.operand }) := by
  repeat refine forms_cons ⟨rfl, fun _ => rfl⟩ ?_
  exact List.forall_mem_nil _

end Sys2Proof.Machine
end

