-- ==== Sys2Proof/Laws/PerInstr.lean ====
section
/-! SUPPORT. One lemma per constructor of `Instr`: decoding what a well-formed instruction encodes to gives it back,
whatever bytes follow (30_encoding.md rules R90 to R93). -/

namespace Sys2Proof.Laws

/-- Decoding the encoding of `i` gives `i` and leaves the bytes after it. -/
def RoundTrip.Statement (i : Instr) : Prop :=
  i.wellFormed = true → ∀ rest : List Byte, decode (encode i ++ rest) = .ok (i, rest)

/-- A property of the eight bit indices holds of every bit index of a well-formed instruction. -/
theorem bit_index_cases {p : Nat → Prop} (h0 : p 0) (h1 : p 1) (h2 : p 2) (h3 : p 3) (h4 : p 4) (h5 : p 5) (h6 : p 6)
    (h7 : p 7) {b : Nat} (hb : b < 8) : p b := by
  interval_cases b <;> assumption

theorem RoundTrip.nop : RoundTrip.Statement (.nop) := fun _ _ => rfl
theorem RoundTrip.ex_AF_AFshadow : RoundTrip.Statement (.ex_AF_AFshadow) := fun _ _ => rfl
theorem RoundTrip.djnz_e (e : Byte) : RoundTrip.Statement (.djnz_e e) := fun _ _ => rfl
theorem RoundTrip.jr_e (e : Byte) : RoundTrip.Statement (.jr_e e) := fun _ _ => rfl
theorem RoundTrip.jr_NZ_e (e : Byte) : RoundTrip.Statement (.jr_NZ_e e) := fun _ _ => rfl
theorem RoundTrip.jr_Z_e (e : Byte) : RoundTrip.Statement (.jr_Z_e e) := fun _ _ => rfl
theorem RoundTrip.jr_NC_e (e : Byte) : RoundTrip.Statement (.jr_NC_e e) := fun _ _ => rfl
theorem RoundTrip.jr_C_e (e : Byte) : RoundTrip.Statement (.jr_C_e e) := fun _ _ => rfl
theorem RoundTrip.ld_BC_nn (nn : Word) : RoundTrip.Statement (.ld_BC_nn nn) := fun _ rest =>
  congrArg (fun w => Except.ok (Instr.ld_BC_nn w, rest)) (Machine.joinBytes_hi_lo nn)
theorem RoundTrip.add_HL_BC : RoundTrip.Statement (.add_HL_BC) := fun _ _ => rfl
theorem RoundTrip.inc_BC : RoundTrip.Statement (.inc_BC) := fun _ _ => rfl
theorem RoundTrip.dec_BC : RoundTrip.Statement (.dec_BC) := fun _ _ => rfl
theorem RoundTrip.ld_DE_nn (nn : Word) : RoundTrip.Statement (.ld_DE_nn nn) := fun _ rest =>
  congrArg (fun w => Except.ok (Instr.ld_DE_nn w, rest)) (Machine.joinBytes_hi_lo nn)
theorem RoundTrip.add_HL_DE : RoundTrip.Statement (.add_HL_DE) := fun _ _ => rfl
theorem RoundTrip.inc_DE : RoundTrip.Statement (.inc_DE) := fun _ _ => rfl
theorem RoundTrip.dec_DE : RoundTrip.Statement (.dec_DE) := fun _ _ => rfl
theorem RoundTrip.ld_HL_nn (nn : Word) : RoundTrip.Statement (.ld_HL_nn nn) := fun _ rest =>
  congrArg (fun w => Except.ok (Instr.ld_HL_nn w, rest)) (Machine.joinBytes_hi_lo nn)
theorem RoundTrip.add_HL_HL : RoundTrip.Statement (.add_HL_HL) := fun _ _ => rfl
theorem RoundTrip.inc_HL : RoundTrip.Statement (.inc_HL) := fun _ _ => rfl
theorem RoundTrip.dec_HL : RoundTrip.Statement (.dec_HL) := fun _ _ => rfl
theorem RoundTrip.ld_SP_nn (nn : Word) : RoundTrip.Statement (.ld_SP_nn nn) := fun _ rest =>
  congrArg (fun w => Except.ok (Instr.ld_SP_nn w, rest)) (Machine.joinBytes_hi_lo nn)
theorem RoundTrip.add_HL_SP : RoundTrip.Statement (.add_HL_SP) := fun _ _ => rfl
theorem RoundTrip.inc_SP : RoundTrip.Statement (.inc_SP) := fun _ _ => rfl
theorem RoundTrip.dec_SP : RoundTrip.Statement (.dec_SP) := fun _ _ => rfl
theorem RoundTrip.ld_atBC_A : RoundTrip.Statement (.ld_atBC_A) := fun _ _ => rfl
theorem RoundTrip.ld_atDE_A : RoundTrip.Statement (.ld_atDE_A) := fun _ _ => rfl
theorem RoundTrip.ld_atNn_HL (nn : Word) : RoundTrip.Statement (.ld_atNn_HL nn) := fun _ rest =>
  congrArg (fun w => Except.ok (Instr.ld_atNn_HL w, rest)) (Machine.joinBytes_hi_lo nn)
theorem RoundTrip.ld_atNn_A (nn : Word) : RoundTrip.Statement (.ld_atNn_A nn) := fun _ rest =>
  congrArg (fun w => Except.ok (Instr.ld_atNn_A w, rest)) (Machine.joinBytes_hi_lo nn)
theorem RoundTrip.ld_A_atBC : RoundTrip.Statement (.ld_A_atBC) := fun _ _ => rfl
theorem RoundTrip.ld_A_atDE : RoundTrip.Statement (.ld_A_atDE) := fun _ _ => rfl
theorem RoundTrip.ld_HL_atNn (nn : Word) : RoundTrip.Statement (.ld_HL_atNn nn) := fun _ rest =>
  congrArg (fun w => Except.ok (Instr.ld_HL_atNn w, rest)) (Machine.joinBytes_hi_lo nn)
theorem RoundTrip.ld_A_atNn (nn : Word) : RoundTrip.Statement (.ld_A_atNn nn) := fun _ rest =>
  congrArg (fun w => Except.ok (Instr.ld_A_atNn w, rest)) (Machine.joinBytes_hi_lo nn)
theorem RoundTrip.inc_B : RoundTrip.Statement (.inc_B) := fun _ _ => rfl
theorem RoundTrip.dec_B : RoundTrip.Statement (.dec_B) := fun _ _ => rfl
theorem RoundTrip.ld_B_n (n : Byte) : RoundTrip.Statement (.ld_B_n n) := fun _ _ => rfl
theorem RoundTrip.inc_C : RoundTrip.Statement (.inc_C) := fun _ _ => rfl
theorem RoundTrip.dec_C : RoundTrip.Statement (.dec_C) := fun _ _ => rfl
theorem RoundTrip.ld_C_n (n : Byte) : RoundTrip.Statement (.ld_C_n n) := fun _ _ => rfl
theorem RoundTrip.inc_D : RoundTrip.Statement (.inc_D) := fun _ _ => rfl
theorem RoundTrip.dec_D : RoundTrip.Statement (.dec_D) := fun _ _ => rfl
theorem RoundTrip.ld_D_n (n : Byte) : RoundTrip.Statement (.ld_D_n n) := fun _ _ => rfl
theorem RoundTrip.inc_E : RoundTrip.Statement (.inc_E) := fun _ _ => rfl
theorem RoundTrip.dec_E : RoundTrip.Statement (.dec_E) := fun _ _ => rfl
theorem RoundTrip.ld_E_n (n : Byte) : RoundTrip.Statement (.ld_E_n n) := fun _ _ => rfl
theorem RoundTrip.inc_H : RoundTrip.Statement (.inc_H) := fun _ _ => rfl
theorem RoundTrip.dec_H : RoundTrip.Statement (.dec_H) := fun _ _ => rfl
theorem RoundTrip.ld_H_n (n : Byte) : RoundTrip.Statement (.ld_H_n n) := fun _ _ => rfl
theorem RoundTrip.inc_L : RoundTrip.Statement (.inc_L) := fun _ _ => rfl
theorem RoundTrip.dec_L : RoundTrip.Statement (.dec_L) := fun _ _ => rfl
theorem RoundTrip.ld_L_n (n : Byte) : RoundTrip.Statement (.ld_L_n n) := fun _ _ => rfl
theorem RoundTrip.inc_atHL : RoundTrip.Statement (.inc_atHL) := fun _ _ => rfl
theorem RoundTrip.dec_atHL : RoundTrip.Statement (.dec_atHL) := fun _ _ => rfl
theorem RoundTrip.ld_atHL_n (n : Byte) : RoundTrip.Statement (.ld_atHL_n n) := fun _ _ => rfl
theorem RoundTrip.inc_A : RoundTrip.Statement (.inc_A) := fun _ _ => rfl
theorem RoundTrip.dec_A : RoundTrip.Statement (.dec_A) := fun _ _ => rfl
theorem RoundTrip.ld_A_n (n : Byte) : RoundTrip.Statement (.ld_A_n n) := fun _ _ => rfl
theorem RoundTrip.rlca : RoundTrip.Statement (.rlca) := fun _ _ => rfl
theorem RoundTrip.rrca : RoundTrip.Statement (.rrca) := fun _ _ => rfl
theorem RoundTrip.rla : RoundTrip.Statement (.rla) := fun _ _ => rfl
theorem RoundTrip.rra : RoundTrip.Statement (.rra) := fun _ _ => rfl
theorem RoundTrip.daa : RoundTrip.Statement (.daa) := fun _ _ => rfl
theorem RoundTrip.cpl : RoundTrip.Statement (.cpl) := fun _ _ => rfl
theorem RoundTrip.scf : RoundTrip.Statement (.scf) := fun _ _ => rfl
theorem RoundTrip.ccf : RoundTrip.Statement (.ccf) := fun _ _ => rfl
theorem RoundTrip.ld_B_B : RoundTrip.Statement (.ld_B_B) := fun _ _ => rfl
theorem RoundTrip.ld_B_C : RoundTrip.Statement (.ld_B_C) := fun _ _ => rfl
theorem RoundTrip.ld_B_D : RoundTrip.Statement (.ld_B_D) := fun _ _ => rfl
theorem RoundTrip.ld_B_E : RoundTrip.Statement (.ld_B_E) := fun _ _ => rfl
theorem RoundTrip.ld_B_H : RoundTrip.Statement (.ld_B_H) := fun _ _ => rfl
theorem RoundTrip.ld_B_L : RoundTrip.Statement (.ld_B_L) := fun _ _ => rfl
theorem RoundTrip.ld_B_atHL : RoundTrip.Statement (.ld_B_atHL) := fun _ _ => rfl
theorem RoundTrip.ld_B_A : RoundTrip.Statement (.ld_B_A) := fun _ _ => rfl
theorem RoundTrip.ld_C_B : RoundTrip.Statement (.ld_C_B) := fun _ _ => rfl
theorem RoundTrip.ld_C_C : RoundTrip.Statement (.ld_C_C) := fun _ _ => rfl
theorem RoundTrip.ld_C_D : RoundTrip.Statement (.ld_C_D) := fun _ _ => rfl
theorem RoundTrip.ld_C_E : RoundTrip.Statement (.ld_C_E) := fun _ _ => rfl
theorem RoundTrip.ld_C_H : RoundTrip.Statement (.ld_C_H) := fun _ _ => rfl
theorem RoundTrip.ld_C_L : RoundTrip.Statement (.ld_C_L) := fun _ _ => rfl
theorem RoundTrip.ld_C_atHL : RoundTrip.Statement (.ld_C_atHL) := fun _ _ => rfl
theorem RoundTrip.ld_C_A : RoundTrip.Statement (.ld_C_A) := fun _ _ => rfl
theorem RoundTrip.ld_D_B : RoundTrip.Statement (.ld_D_B) := fun _ _ => rfl
theorem RoundTrip.ld_D_C : RoundTrip.Statement (.ld_D_C) := fun _ _ => rfl
theorem RoundTrip.ld_D_D : RoundTrip.Statement (.ld_D_D) := fun _ _ => rfl
theorem RoundTrip.ld_D_E : RoundTrip.Statement (.ld_D_E) := fun _ _ => rfl
theorem RoundTrip.ld_D_H : RoundTrip.Statement (.ld_D_H) := fun _ _ => rfl
theorem RoundTrip.ld_D_L : RoundTrip.Statement (.ld_D_L) := fun _ _ => rfl
theorem RoundTrip.ld_D_atHL : RoundTrip.Statement (.ld_D_atHL) := fun _ _ => rfl
theorem RoundTrip.ld_D_A : RoundTrip.Statement (.ld_D_A) := fun _ _ => rfl
theorem RoundTrip.ld_E_B : RoundTrip.Statement (.ld_E_B) := fun _ _ => rfl
theorem RoundTrip.ld_E_C : RoundTrip.Statement (.ld_E_C) := fun _ _ => rfl
theorem RoundTrip.ld_E_D : RoundTrip.Statement (.ld_E_D) := fun _ _ => rfl
theorem RoundTrip.ld_E_E : RoundTrip.Statement (.ld_E_E) := fun _ _ => rfl
theorem RoundTrip.ld_E_H : RoundTrip.Statement (.ld_E_H) := fun _ _ => rfl
theorem RoundTrip.ld_E_L : RoundTrip.Statement (.ld_E_L) := fun _ _ => rfl
theorem RoundTrip.ld_E_atHL : RoundTrip.Statement (.ld_E_atHL) := fun _ _ => rfl
theorem RoundTrip.ld_E_A : RoundTrip.Statement (.ld_E_A) := fun _ _ => rfl
theorem RoundTrip.ld_H_B : RoundTrip.Statement (.ld_H_B) := fun _ _ => rfl
theorem RoundTrip.ld_H_C : RoundTrip.Statement (.ld_H_C) := fun _ _ => rfl
theorem RoundTrip.ld_H_D : RoundTrip.Statement (.ld_H_D) := fun _ _ => rfl
theorem RoundTrip.ld_H_E : RoundTrip.Statement (.ld_H_E) := fun _ _ => rfl
theorem RoundTrip.ld_H_H : RoundTrip.Statement (.ld_H_H) := fun _ _ => rfl
theorem RoundTrip.ld_H_L : RoundTrip.Statement (.ld_H_L) := fun _ _ => rfl
theorem RoundTrip.ld_H_atHL : RoundTrip.Statement (.ld_H_atHL) := fun _ _ => rfl
theorem RoundTrip.ld_H_A : RoundTrip.Statement (.ld_H_A) := fun _ _ => rfl
theorem RoundTrip.ld_L_B : RoundTrip.Statement (.ld_L_B) := fun _ _ => rfl
theorem RoundTrip.ld_L_C : RoundTrip.Statement (.ld_L_C) := fun _ _ => rfl
theorem RoundTrip.ld_L_D : RoundTrip.Statement (.ld_L_D) := fun _ _ => rfl
theorem RoundTrip.ld_L_E : RoundTrip.Statement (.ld_L_E) := fun _ _ => rfl
theorem RoundTrip.ld_L_H : RoundTrip.Statement (.ld_L_H) := fun _ _ => rfl
theorem RoundTrip.ld_L_L : RoundTrip.Statement (.ld_L_L) := fun _ _ => rfl
theorem RoundTrip.ld_L_atHL : RoundTrip.Statement (.ld_L_atHL) := fun _ _ => rfl
theorem RoundTrip.ld_L_A : RoundTrip.Statement (.ld_L_A) := fun _ _ => rfl
theorem RoundTrip.ld_atHL_B : RoundTrip.Statement (.ld_atHL_B) := fun _ _ => rfl
theorem RoundTrip.ld_atHL_C : RoundTrip.Statement (.ld_atHL_C) := fun _ _ => rfl
theorem RoundTrip.ld_atHL_D : RoundTrip.Statement (.ld_atHL_D) := fun _ _ => rfl
theorem RoundTrip.ld_atHL_E : RoundTrip.Statement (.ld_atHL_E) := fun _ _ => rfl
theorem RoundTrip.ld_atHL_H : RoundTrip.Statement (.ld_atHL_H) := fun _ _ => rfl
theorem RoundTrip.ld_atHL_L : RoundTrip.Statement (.ld_atHL_L) := fun _ _ => rfl
theorem RoundTrip.halt : RoundTrip.Statement (.halt) := fun _ _ => rfl
theorem RoundTrip.ld_atHL_A : RoundTrip.Statement (.ld_atHL_A) := fun _ _ => rfl
theorem RoundTrip.ld_A_B : RoundTrip.Statement (.ld_A_B) := fun _ _ => rfl
theorem RoundTrip.ld_A_C : RoundTrip.Statement (.ld_A_C) := fun _ _ => rfl
theorem RoundTrip.ld_A_D : RoundTrip.Statement (.ld_A_D) := fun _ _ => rfl
theorem RoundTrip.ld_A_E : RoundTrip.Statement (.ld_A_E) := fun _ _ => rfl
theorem RoundTrip.ld_A_H : RoundTrip.Statement (.ld_A_H) := fun _ _ => rfl
theorem RoundTrip.ld_A_L : RoundTrip.Statement (.ld_A_L) := fun _ _ => rfl
theorem RoundTrip.ld_A_atHL : RoundTrip.Statement (.ld_A_atHL) := fun _ _ => rfl
theorem RoundTrip.ld_A_A : RoundTrip.Statement (.ld_A_A) := fun _ _ => rfl
theorem RoundTrip.add_A_B : RoundTrip.Statement (.add_A_B) := fun _ _ => rfl
theorem RoundTrip.add_A_C : RoundTrip.Statement (.add_A_C) := fun _ _ => rfl
theorem RoundTrip.add_A_D : RoundTrip.Statement (.add_A_D) := fun _ _ => rfl
theorem RoundTrip.add_A_E : RoundTrip.Statement (.add_A_E) := fun _ _ => rfl
theorem RoundTrip.add_A_H : RoundTrip.Statement (.add_A_H) := fun _ _ => rfl
theorem RoundTrip.add_A_L : RoundTrip.Statement (.add_A_L) := fun _ _ => rfl
theorem RoundTrip.add_A_atHL : RoundTrip.Statement (.add_A_atHL) := fun _ _ => rfl
theorem RoundTrip.add_A_A : RoundTrip.Statement (.add_A_A) := fun _ _ => rfl
theorem RoundTrip.add_A_n (n : Byte) : RoundTrip.Statement (.add_A_n n) := fun _ _ => rfl
theorem RoundTrip.adc_A_B : RoundTrip.Statement (.adc_A_B) := fun _ _ => rfl
theorem RoundTrip.adc_A_C : RoundTrip.Statement (.adc_A_C) := fun _ _ => rfl
theorem RoundTrip.adc_A_D : RoundTrip.Statement (.adc_A_D) := fun _ _ => rfl
theorem RoundTrip.adc_A_E : RoundTrip.Statement (.adc_A_E) := fun _ _ => rfl
theorem RoundTrip.adc_A_H : RoundTrip.Statement (.adc_A_H) := fun _ _ => rfl
theorem RoundTrip.adc_A_L : RoundTrip.Statement (.adc_A_L) := fun _ _ => rfl
theorem RoundTrip.adc_A_atHL : RoundTrip.Statement (.adc_A_atHL) := fun _ _ => rfl
theorem RoundTrip.adc_A_A : RoundTrip.Statement (.adc_A_A) := fun _ _ => rfl
theorem RoundTrip.adc_A_n (n : Byte) : RoundTrip.Statement (.adc_A_n n) := fun _ _ => rfl
theorem RoundTrip.sub_B : RoundTrip.Statement (.sub_B) := fun _ _ => rfl
theorem RoundTrip.sub_C : RoundTrip.Statement (.sub_C) := fun _ _ => rfl
theorem RoundTrip.sub_D : RoundTrip.Statement (.sub_D) := fun _ _ => rfl
theorem RoundTrip.sub_E : RoundTrip.Statement (.sub_E) := fun _ _ => rfl
theorem RoundTrip.sub_H : RoundTrip.Statement (.sub_H) := fun _ _ => rfl
theorem RoundTrip.sub_L : RoundTrip.Statement (.sub_L) := fun _ _ => rfl
theorem RoundTrip.sub_atHL : RoundTrip.Statement (.sub_atHL) := fun _ _ => rfl
theorem RoundTrip.sub_A : RoundTrip.Statement (.sub_A) := fun _ _ => rfl
theorem RoundTrip.sub_n (n : Byte) : RoundTrip.Statement (.sub_n n) := fun _ _ => rfl
theorem RoundTrip.sbc_A_B : RoundTrip.Statement (.sbc_A_B) := fun _ _ => rfl
theorem RoundTrip.sbc_A_C : RoundTrip.Statement (.sbc_A_C) := fun _ _ => rfl
theorem RoundTrip.sbc_A_D : RoundTrip.Statement (.sbc_A_D) := fun _ _ => rfl
theorem RoundTrip.sbc_A_E : RoundTrip.Statement (.sbc_A_E) := fun _ _ => rfl
theorem RoundTrip.sbc_A_H : RoundTrip.Statement (.sbc_A_H) := fun _ _ => rfl
theorem RoundTrip.sbc_A_L : RoundTrip.Statement (.sbc_A_L) := fun _ _ => rfl
theorem RoundTrip.sbc_A_atHL : RoundTrip.Statement (.sbc_A_atHL) := fun _ _ => rfl
theorem RoundTrip.sbc_A_A : RoundTrip.Statement (.sbc_A_A) := fun _ _ => rfl
theorem RoundTrip.sbc_A_n (n : Byte) : RoundTrip.Statement (.sbc_A_n n) := fun _ _ => rfl
theorem RoundTrip.and_B : RoundTrip.Statement (.and_B) := fun _ _ => rfl
theorem RoundTrip.and_C : RoundTrip.Statement (.and_C) := fun _ _ => rfl
theorem RoundTrip.and_D : RoundTrip.Statement (.and_D) := fun _ _ => rfl
theorem RoundTrip.and_E : RoundTrip.Statement (.and_E) := fun _ _ => rfl
theorem RoundTrip.and_H : RoundTrip.Statement (.and_H) := fun _ _ => rfl
theorem RoundTrip.and_L : RoundTrip.Statement (.and_L) := fun _ _ => rfl
theorem RoundTrip.and_atHL : RoundTrip.Statement (.and_atHL) := fun _ _ => rfl
theorem RoundTrip.and_A : RoundTrip.Statement (.and_A) := fun _ _ => rfl
theorem RoundTrip.and_n (n : Byte) : RoundTrip.Statement (.and_n n) := fun _ _ => rfl
theorem RoundTrip.xor_B : RoundTrip.Statement (.xor_B) := fun _ _ => rfl
theorem RoundTrip.xor_C : RoundTrip.Statement (.xor_C) := fun _ _ => rfl
theorem RoundTrip.xor_D : RoundTrip.Statement (.xor_D) := fun _ _ => rfl
theorem RoundTrip.xor_E : RoundTrip.Statement (.xor_E) := fun _ _ => rfl
theorem RoundTrip.xor_H : RoundTrip.Statement (.xor_H) := fun _ _ => rfl
theorem RoundTrip.xor_L : RoundTrip.Statement (.xor_L) := fun _ _ => rfl
theorem RoundTrip.xor_atHL : RoundTrip.Statement (.xor_atHL) := fun _ _ => rfl
theorem RoundTrip.xor_A : RoundTrip.Statement (.xor_A) := fun _ _ => rfl
theorem RoundTrip.xor_n (n : Byte) : RoundTrip.Statement (.xor_n n) := fun _ _ => rfl
theorem RoundTrip.or_B : RoundTrip.Statement (.or_B) := fun _ _ => rfl
theorem RoundTrip.or_C : RoundTrip.Statement (.or_C) := fun _ _ => rfl
theorem RoundTrip.or_D : RoundTrip.Statement (.or_D) := fun _ _ => rfl
theorem RoundTrip.or_E : RoundTrip.Statement (.or_E) := fun _ _ => rfl
theorem RoundTrip.or_H : RoundTrip.Statement (.or_H) := fun _ _ => rfl
theorem RoundTrip.or_L : RoundTrip.Statement (.or_L) := fun _ _ => rfl
theorem RoundTrip.or_atHL : RoundTrip.Statement (.or_atHL) := fun _ _ => rfl
theorem RoundTrip.or_A : RoundTrip.Statement (.or_A) := fun _ _ => rfl
theorem RoundTrip.or_n (n : Byte) : RoundTrip.Statement (.or_n n) := fun _ _ => rfl
theorem RoundTrip.cp_B : RoundTrip.Statement (.cp_B) := fun _ _ => rfl
theorem RoundTrip.cp_C : RoundTrip.Statement (.cp_C) := fun _ _ => rfl
theorem RoundTrip.cp_D : RoundTrip.Statement (.cp_D) := fun _ _ => rfl
theorem RoundTrip.cp_E : RoundTrip.Statement (.cp_E) := fun _ _ => rfl
theorem RoundTrip.cp_H : RoundTrip.Statement (.cp_H) := fun _ _ => rfl
theorem RoundTrip.cp_L : RoundTrip.Statement (.cp_L) := fun _ _ => rfl
theorem RoundTrip.cp_atHL : RoundTrip.Statement (.cp_atHL) := fun _ _ => rfl
theorem RoundTrip.cp_A : RoundTrip.Statement (.cp_A) := fun _ _ => rfl
theorem RoundTrip.cp_n (n : Byte) : RoundTrip.Statement (.cp_n n) := fun _ _ => rfl
theorem RoundTrip.ret_NZ : RoundTrip.Statement (.ret_NZ) := fun _ _ => rfl
theorem RoundTrip.jp_NZ_nn (nn : Word) : RoundTrip.Statement (.jp_NZ_nn nn) := fun _ rest =>
  congrArg (fun w => Except.ok (Instr.jp_NZ_nn w, rest)) (Machine.joinBytes_hi_lo nn)
theorem RoundTrip.call_NZ_nn (nn : Word) : RoundTrip.Statement (.call_NZ_nn nn) := fun _ rest =>
  congrArg (fun w => Except.ok (Instr.call_NZ_nn w, rest)) (Machine.joinBytes_hi_lo nn)
theorem RoundTrip.rst_00 : RoundTrip.Statement (.rst_00) := fun _ _ => rfl
theorem RoundTrip.ret_Z : RoundTrip.Statement (.ret_Z) := fun _ _ => rfl
theorem RoundTrip.jp_Z_nn (nn : Word) : RoundTrip.Statement (.jp_Z_nn nn) := fun _ rest =>
  congrArg (fun w => Except.ok (Instr.jp_Z_nn w, rest)) (Machine.joinBytes_hi_lo nn)
theorem RoundTrip.call_Z_nn (nn : Word) : RoundTrip.Statement (.call_Z_nn nn) := fun _ rest =>
  congrArg (fun w => Except.ok (Instr.call_Z_nn w, rest)) (Machine.joinBytes_hi_lo nn)
theorem RoundTrip.rst_08 : RoundTrip.Statement (.rst_08) := fun _ _ => rfl
theorem RoundTrip.ret_NC : RoundTrip.Statement (.ret_NC) := fun _ _ => rfl
theorem RoundTrip.jp_NC_nn (nn : Word) : RoundTrip.Statement (.jp_NC_nn nn) := fun _ rest =>
  congrArg (fun w => Except.ok (Instr.jp_NC_nn w, rest)) (Machine.joinBytes_hi_lo nn)
theorem RoundTrip.call_NC_nn (nn : Word) : RoundTrip.Statement (.call_NC_nn nn) := fun _ rest =>
  congrArg (fun w => Except.ok (Instr.call_NC_nn w, rest)) (Machine.joinBytes_hi_lo nn)
theorem RoundTrip.rst_10 : RoundTrip.Statement (.rst_10) := fun _ _ => rfl
theorem RoundTrip.ret_C : RoundTrip.Statement (.ret_C) := fun _ _ => rfl
theorem RoundTrip.jp_C_nn (nn : Word) : RoundTrip.Statement (.jp_C_nn nn) := fun _ rest =>
  congrArg (fun w => Except.ok (Instr.jp_C_nn w, rest)) (Machine.joinBytes_hi_lo nn)
theorem RoundTrip.call_C_nn (nn : Word) : RoundTrip.Statement (.call_C_nn nn) := fun _ rest =>
  congrArg (fun w => Except.ok (Instr.call_C_nn w, rest)) (Machine.joinBytes_hi_lo nn)
theorem RoundTrip.rst_18 : RoundTrip.Statement (.rst_18) := fun _ _ => rfl
theorem RoundTrip.ret_PO : RoundTrip.Statement (.ret_PO) := fun _ _ => rfl
theorem RoundTrip.jp_PO_nn (nn : Word) : RoundTrip.Statement (.jp_PO_nn nn) := fun _ rest =>
  congrArg (fun w => Except.ok (Instr.jp_PO_nn w, rest)) (Machine.joinBytes_hi_lo nn)
theorem RoundTrip.call_PO_nn (nn : Word) : RoundTrip.Statement (.call_PO_nn nn) := fun _ rest =>
  congrArg (fun w => Except.ok (Instr.call_PO_nn w, rest)) (Machine.joinBytes_hi_lo nn)
theorem RoundTrip.rst_20 : RoundTrip.Statement (.rst_20) := fun _ _ => rfl
theorem RoundTrip.ret_PE : RoundTrip.Statement (.ret_PE) := fun _ _ => rfl
theorem RoundTrip.jp_PE_nn (nn : Word) : RoundTrip.Statement (.jp_PE_nn nn) := fun _ rest =>
  congrArg (fun w => Except.ok (Instr.jp_PE_nn w, rest)) (Machine.joinBytes_hi_lo nn)
theorem RoundTrip.call_PE_nn (nn : Word) : RoundTrip.Statement (.call_PE_nn nn) := fun _ rest =>
  congrArg (fun w => Except.ok (Instr.call_PE_nn w, rest)) (Machine.joinBytes_hi_lo nn)
theorem RoundTrip.rst_28 : RoundTrip.Statement (.rst_28) := fun _ _ => rfl
theorem RoundTrip.ret_P : RoundTrip.Statement (.ret_P) := fun _ _ => rfl
theorem RoundTrip.jp_P_nn (nn : Word) : RoundTrip.Statement (.jp_P_nn nn) := fun _ rest =>
  congrArg (fun w => Except.ok (Instr.jp_P_nn w, rest)) (Machine.joinBytes_hi_lo nn)
theorem RoundTrip.call_P_nn (nn : Word) : RoundTrip.Statement (.call_P_nn nn) := fun _ rest =>
  congrArg (fun w => Except.ok (Instr.call_P_nn w, rest)) (Machine.joinBytes_hi_lo nn)
theorem RoundTrip.rst_30 : RoundTrip.Statement (.rst_30) := fun _ _ => rfl
theorem RoundTrip.ret_M : RoundTrip.Statement (.ret_M) := fun _ _ => rfl
theorem RoundTrip.jp_M_nn (nn : Word) : RoundTrip.Statement (.jp_M_nn nn) := fun _ rest =>
  congrArg (fun w => Except.ok (Instr.jp_M_nn w, rest)) (Machine.joinBytes_hi_lo nn)
theorem RoundTrip.call_M_nn (nn : Word) : RoundTrip.Statement (.call_M_nn nn) := fun _ rest =>
  congrArg (fun w => Except.ok (Instr.call_M_nn w, rest)) (Machine.joinBytes_hi_lo nn)
theorem RoundTrip.rst_38 : RoundTrip.Statement (.rst_38) := fun _ _ => rfl
theorem RoundTrip.pop_BC : RoundTrip.Statement (.pop_BC) := fun _ _ => rfl
theorem RoundTrip.push_BC : RoundTrip.Statement (.push_BC) := fun _ _ => rfl
theorem RoundTrip.pop_DE : RoundTrip.Statement (.pop_DE) := fun _ _ => rfl
theorem RoundTrip.push_DE : RoundTrip.Statement (.push_DE) := fun _ _ => rfl
theorem RoundTrip.pop_HL : RoundTrip.Statement (.pop_HL) := fun _ _ => rfl
theorem RoundTrip.push_HL : RoundTrip.Statement (.push_HL) := fun _ _ => rfl
theorem RoundTrip.pop_AF : RoundTrip.Statement (.pop_AF) := fun _ _ => rfl
theorem RoundTrip.push_AF : RoundTrip.Statement (.push_AF) := fun _ _ => rfl
theorem RoundTrip.ret : RoundTrip.Statement (.ret) := fun _ _ => rfl
theorem RoundTrip.exx : RoundTrip.Statement (.exx) := fun _ _ => rfl
theorem RoundTrip.jp_HL : RoundTrip.Statement (.jp_HL) := fun _ _ => rfl
theorem RoundTrip.ld_SP_HL : RoundTrip.Statement (.ld_SP_HL) := fun _ _ => rfl
theorem RoundTrip.jp_nn (nn : Word) : RoundTrip.Statement (.jp_nn nn) := fun _ rest =>
  congrArg (fun w => Except.ok (Instr.jp_nn w, rest)) (Machine.joinBytes_hi_lo nn)
theorem RoundTrip.out_atN_A (n : Byte) : RoundTrip.Statement (.out_atN_A n) := fun _ _ => rfl
theorem RoundTrip.in_A_atN (n : Byte) : RoundTrip.Statement (.in_A_atN n) := fun _ _ => rfl
theorem RoundTrip.ex_atSP_HL : RoundTrip.Statement (.ex_atSP_HL) := fun _ _ => rfl
theorem RoundTrip.ex_DE_HL : RoundTrip.Statement (.ex_DE_HL) := fun _ _ => rfl
theorem RoundTrip.di : RoundTrip.Statement (.di) := fun _ _ => rfl
theorem RoundTrip.ei : RoundTrip.Statement (.ei) := fun _ _ => rfl
theorem RoundTrip.call_nn (nn : Word) : RoundTrip.Statement (.call_nn nn) := fun _ rest =>
  congrArg (fun w => Except.ok (Instr.call_nn w, rest)) (Machine.joinBytes_hi_lo nn)
theorem RoundTrip.rlc_B : RoundTrip.Statement (.rlc_B) := fun _ _ => rfl
theorem RoundTrip.rlc_C : RoundTrip.Statement (.rlc_C) := fun _ _ => rfl
theorem RoundTrip.rlc_D : RoundTrip.Statement (.rlc_D) := fun _ _ => rfl
theorem RoundTrip.rlc_E : RoundTrip.Statement (.rlc_E) := fun _ _ => rfl
theorem RoundTrip.rlc_H : RoundTrip.Statement (.rlc_H) := fun _ _ => rfl
theorem RoundTrip.rlc_L : RoundTrip.Statement (.rlc_L) := fun _ _ => rfl
theorem RoundTrip.rlc_atHL : RoundTrip.Statement (.rlc_atHL) := fun _ _ => rfl
theorem RoundTrip.rlc_A : RoundTrip.Statement (.rlc_A) := fun _ _ => rfl
theorem RoundTrip.rrc_B : RoundTrip.Statement (.rrc_B) := fun _ _ => rfl
theorem RoundTrip.rrc_C : RoundTrip.Statement (.rrc_C) := fun _ _ => rfl
theorem RoundTrip.rrc_D : RoundTrip.Statement (.rrc_D) := fun _ _ => rfl
theorem RoundTrip.rrc_E : RoundTrip.Statement (.rrc_E) := fun _ _ => rfl
theorem RoundTrip.rrc_H : RoundTrip.Statement (.rrc_H) := fun _ _ => rfl
theorem RoundTrip.rrc_L : RoundTrip.Statement (.rrc_L) := fun _ _ => rfl
theorem RoundTrip.rrc_atHL : RoundTrip.Statement (.rrc_atHL) := fun _ _ => rfl
theorem RoundTrip.rrc_A : RoundTrip.Statement (.rrc_A) := fun _ _ => rfl
theorem RoundTrip.rl_B : RoundTrip.Statement (.rl_B) := fun _ _ => rfl
theorem RoundTrip.rl_C : RoundTrip.Statement (.rl_C) := fun _ _ => rfl
theorem RoundTrip.rl_D : RoundTrip.Statement (.rl_D) := fun _ _ => rfl
theorem RoundTrip.rl_E : RoundTrip.Statement (.rl_E) := fun _ _ => rfl
theorem RoundTrip.rl_H : RoundTrip.Statement (.rl_H) := fun _ _ => rfl
theorem RoundTrip.rl_L : RoundTrip.Statement (.rl_L) := fun _ _ => rfl
theorem RoundTrip.rl_atHL : RoundTrip.Statement (.rl_atHL) := fun _ _ => rfl
theorem RoundTrip.rl_A : RoundTrip.Statement (.rl_A) := fun _ _ => rfl
theorem RoundTrip.rr_B : RoundTrip.Statement (.rr_B) := fun _ _ => rfl
theorem RoundTrip.rr_C : RoundTrip.Statement (.rr_C) := fun _ _ => rfl
theorem RoundTrip.rr_D : RoundTrip.Statement (.rr_D) := fun _ _ => rfl
theorem RoundTrip.rr_E : RoundTrip.Statement (.rr_E) := fun _ _ => rfl
theorem RoundTrip.rr_H : RoundTrip.Statement (.rr_H) := fun _ _ => rfl
theorem RoundTrip.rr_L : RoundTrip.Statement (.rr_L) := fun _ _ => rfl
theorem RoundTrip.rr_atHL : RoundTrip.Statement (.rr_atHL) := fun _ _ => rfl
theorem RoundTrip.rr_A : RoundTrip.Statement (.rr_A) := fun _ _ => rfl
theorem RoundTrip.sla_B : RoundTrip.Statement (.sla_B) := fun _ _ => rfl
theorem RoundTrip.sla_C : RoundTrip.Statement (.sla_C) := fun _ _ => rfl
theorem RoundTrip.sla_D : RoundTrip.Statement (.sla_D) := fun _ _ => rfl
theorem RoundTrip.sla_E : RoundTrip.Statement (.sla_E) := fun _ _ => rfl
theorem RoundTrip.sla_H : RoundTrip.Statement (.sla_H) := fun _ _ => rfl
theorem RoundTrip.sla_L : RoundTrip.Statement (.sla_L) := fun _ _ => rfl
theorem RoundTrip.sla_atHL : RoundTrip.Statement (.sla_atHL) := fun _ _ => rfl
theorem RoundTrip.sla_A : RoundTrip.Statement (.sla_A) := fun _ _ => rfl
theorem RoundTrip.sra_B : RoundTrip.Statement (.sra_B) := fun _ _ => rfl
theorem RoundTrip.sra_C : RoundTrip.Statement (.sra_C) := fun _ _ => rfl
theorem RoundTrip.sra_D : RoundTrip.Statement (.sra_D) := fun _ _ => rfl
theorem RoundTrip.sra_E : RoundTrip.Statement (.sra_E) := fun _ _ => rfl
theorem RoundTrip.sra_H : RoundTrip.Statement (.sra_H) := fun _ _ => rfl
theorem RoundTrip.sra_L : RoundTrip.Statement (.sra_L) := fun _ _ => rfl
theorem RoundTrip.sra_atHL : RoundTrip.Statement (.sra_atHL) := fun _ _ => rfl
theorem RoundTrip.sra_A : RoundTrip.Statement (.sra_A) := fun _ _ => rfl
theorem RoundTrip.sll_B : RoundTrip.Statement (.sll_B) := fun _ _ => rfl
theorem RoundTrip.sll_C : RoundTrip.Statement (.sll_C) := fun _ _ => rfl
theorem RoundTrip.sll_D : RoundTrip.Statement (.sll_D) := fun _ _ => rfl
theorem RoundTrip.sll_E : RoundTrip.Statement (.sll_E) := fun _ _ => rfl
theorem RoundTrip.sll_H : RoundTrip.Statement (.sll_H) := fun _ _ => rfl
theorem RoundTrip.sll_L : RoundTrip.Statement (.sll_L) := fun _ _ => rfl
theorem RoundTrip.sll_atHL : RoundTrip.Statement (.sll_atHL) := fun _ _ => rfl
theorem RoundTrip.sll_A : RoundTrip.Statement (.sll_A) := fun _ _ => rfl
theorem RoundTrip.srl_B : RoundTrip.Statement (.srl_B) := fun _ _ => rfl
theorem RoundTrip.srl_C : RoundTrip.Statement (.srl_C) := fun _ _ => rfl
theorem RoundTrip.srl_D : RoundTrip.Statement (.srl_D) := fun _ _ => rfl
theorem RoundTrip.srl_E : RoundTrip.Statement (.srl_E) := fun _ _ => rfl
theorem RoundTrip.srl_H : RoundTrip.Statement (.srl_H) := fun _ _ => rfl
theorem RoundTrip.srl_L : RoundTrip.Statement (.srl_L) := fun _ _ => rfl
theorem RoundTrip.srl_atHL : RoundTrip.Statement (.srl_atHL) := fun _ _ => rfl
theorem RoundTrip.srl_A : RoundTrip.Statement (.srl_A) := fun _ _ => rfl
theorem RoundTrip.bit_b_B (b : Nat) : RoundTrip.Statement (.bit_b_B b) := fun h rest =>
  bit_index_cases (p := fun b => decode (encode (.bit_b_B b) ++ rest) = .ok (.bit_b_B b, rest)) rfl rfl rfl rfl rfl rfl rfl rfl
    (of_decide_eq_true h)
theorem RoundTrip.bit_b_C (b : Nat) : RoundTrip.Statement (.bit_b_C b) := fun h rest =>
  bit_index_cases (p := fun b => decode (encode (.bit_b_C b) ++ rest) = .ok (.bit_b_C b, rest)) rfl rfl rfl rfl rfl rfl rfl rfl
    (of_decide_eq_true h)
theorem RoundTrip.bit_b_D (b : Nat) : RoundTrip.Statement (.bit_b_D b) := fun h rest =>
  bit_index_cases (p := fun b => decode (encode (.bit_b_D b) ++ rest) = .ok (.bit_b_D b, rest)) rfl rfl rfl rfl rfl rfl rfl rfl
    (of_decide_eq_true h)
theorem RoundTrip.bit_b_E (b : Nat) : RoundTrip.Statement (.bit_b_E b) := fun h rest =>
  bit_index_cases (p := fun b => decode (encode (.bit_b_E b) ++ rest) = .ok (.bit_b_E b, rest)) rfl rfl rfl rfl rfl rfl rfl rfl
    (of_decide_eq_true h)
theorem RoundTrip.bit_b_H (b : Nat) : RoundTrip.Statement (.bit_b_H b) := fun h rest =>
  bit_index_cases (p := fun b => decode (encode (.bit_b_H b) ++ rest) = .ok (.bit_b_H b, rest)) rfl rfl rfl rfl rfl rfl rfl rfl
    (of_decide_eq_true h)
theorem RoundTrip.bit_b_L (b : Nat) : RoundTrip.Statement (.bit_b_L b) := fun h rest =>
  bit_index_cases (p := fun b => decode (encode (.bit_b_L b) ++ rest) = .ok (.bit_b_L b, rest)) rfl rfl rfl rfl rfl rfl rfl rfl
    (of_decide_eq_true h)
theorem RoundTrip.bit_b_atHL (b : Nat) : RoundTrip.Statement (.bit_b_atHL b) := fun h rest =>
  bit_index_cases (p := fun b => decode (encode (.bit_b_atHL b) ++ rest) = .ok (.bit_b_atHL b, rest)) rfl rfl rfl rfl rfl rfl rfl rfl
    (of_decide_eq_true h)
theorem RoundTrip.bit_b_A (b : Nat) : RoundTrip.Statement (.bit_b_A b) := fun h rest =>
  bit_index_cases (p := fun b => decode (encode (.bit_b_A b) ++ rest) = .ok (.bit_b_A b, rest)) rfl rfl rfl rfl rfl rfl rfl rfl
    (of_decide_eq_true h)
theorem RoundTrip.res_b_B (b : Nat) : RoundTrip.Statement (.res_b_B b) := fun h rest =>
  bit_index_cases (p := fun b => decode (encode (.res_b_B b) ++ rest) = .ok (.res_b_B b, rest)) rfl rfl rfl rfl rfl rfl rfl rfl
    (of_decide_eq_true h)
theorem RoundTrip.res_b_C (b : Nat) : RoundTrip.Statement (.res_b_C b) := fun h rest =>
  bit_index_cases (p := fun b => decode (encode (.res_b_C b) ++ rest) = .ok (.res_b_C b, rest)) rfl rfl rfl rfl rfl rfl rfl rfl
    (of_decide_eq_true h)
theorem RoundTrip.res_b_D (b : Nat) : RoundTrip.Statement (.res_b_D b) := fun h rest =>
  bit_index_cases (p := fun b => decode (encode (.res_b_D b) ++ rest) = .ok (.res_b_D b, rest)) rfl rfl rfl rfl rfl rfl rfl rfl
    (of_decide_eq_true h)
theorem RoundTrip.res_b_E (b : Nat) : RoundTrip.Statement (.res_b_E b) := fun h rest =>
  bit_index_cases (p := fun b => decode (encode (.res_b_E b) ++ rest) = .ok (.res_b_E b, rest)) rfl rfl rfl rfl rfl rfl rfl rfl
    (of_decide_eq_true h)
theorem RoundTrip.res_b_H (b : Nat) : RoundTrip.Statement (.res_b_H b) := fun h rest =>
  bit_index_cases (p := fun b => decode (encode (.res_b_H b) ++ rest) = .ok (.res_b_H b, rest)) rfl rfl rfl rfl rfl rfl rfl rfl
    (of_decide_eq_true h)
theorem RoundTrip.res_b_L (b : Nat) : RoundTrip.Statement (.res_b_L b) := fun h rest =>
  bit_index_cases (p := fun b => decode (encode (.res_b_L b) ++ rest) = .ok (.res_b_L b, rest)) rfl rfl rfl rfl rfl rfl rfl rfl
    (of_decide_eq_true h)
theorem RoundTrip.res_b_atHL (b : Nat) : RoundTrip.Statement (.res_b_atHL b) := fun h rest =>
  bit_index_cases (p := fun b => decode (encode (.res_b_atHL b) ++ rest) = .ok (.res_b_atHL b, rest)) rfl rfl rfl rfl rfl rfl rfl rfl
    (of_decide_eq_true h)
theorem RoundTrip.res_b_A (b : Nat) : RoundTrip.Statement (.res_b_A b) := fun h rest =>
  bit_index_cases (p := fun b => decode (encode (.res_b_A b) ++ rest) = .ok (.res_b_A b, rest)) rfl rfl rfl rfl rfl rfl rfl rfl
    (of_decide_eq_true h)
theorem RoundTrip.set_b_B (b : Nat) : RoundTrip.Statement (.set_b_B b) := fun h rest =>
  bit_index_cases (p := fun b => decode (encode (.set_b_B b) ++ rest) = .ok (.set_b_B b, rest)) rfl rfl rfl rfl rfl rfl rfl rfl
    (of_decide_eq_true h)
theorem RoundTrip.set_b_C (b : Nat) : RoundTrip.Statement (.set_b_C b) := fun h rest =>
  bit_index_cases (p := fun b => decode (encode (.set_b_C b) ++ rest) = .ok (.set_b_C b, rest)) rfl rfl rfl rfl rfl rfl rfl rfl
    (of_decide_eq_true h)
theorem RoundTrip.set_b_D (b : Nat) : RoundTrip.Statement (.set_b_D b) := fun h rest =>
  bit_index_cases (p := fun b => decode (encode (.set_b_D b) ++ rest) = .ok (.set_b_D b, rest)) rfl rfl rfl rfl rfl rfl rfl rfl
    (of_decide_eq_true h)
theorem RoundTrip.set_b_E (b : Nat) : RoundTrip.Statement (.set_b_E b) := fun h rest =>
  bit_index_cases (p := fun b => decode (encode (.set_b_E b) ++ rest) = .ok (.set_b_E b, rest)) rfl rfl rfl rfl rfl rfl rfl rfl
    (of_decide_eq_true h)
theorem RoundTrip.set_b_H (b : Nat) : RoundTrip.Statement (.set_b_H b) := fun h rest =>
  bit_index_cases (p := fun b => decode (encode (.set_b_H b) ++ rest) = .ok (.set_b_H b, rest)) rfl rfl rfl rfl rfl rfl rfl rfl
    (of_decide_eq_true h)
theorem RoundTrip.set_b_L (b : Nat) : RoundTrip.Statement (.set_b_L b) := fun h rest =>
  bit_index_cases (p := fun b => decode (encode (.set_b_L b) ++ rest) = .ok (.set_b_L b, rest)) rfl rfl rfl rfl rfl rfl rfl rfl
    (of_decide_eq_true h)
theorem RoundTrip.set_b_atHL (b : Nat) : RoundTrip.Statement (.set_b_atHL b) := fun h rest =>
  bit_index_cases (p := fun b => decode (encode (.set_b_atHL b) ++ rest) = .ok (.set_b_atHL b, rest)) rfl rfl rfl rfl rfl rfl rfl rfl
    (of_decide_eq_true h)
theorem RoundTrip.set_b_A (b : Nat) : RoundTrip.Statement (.set_b_A b) := fun h rest =>
  bit_index_cases (p := fun b => decode (encode (.set_b_A b) ++ rest) = .ok (.set_b_A b, rest)) rfl rfl rfl rfl rfl rfl rfl rfl
    (of_decide_eq_true h)
theorem RoundTrip.in_B_atC : RoundTrip.Statement (.in_B_atC) := fun _ _ => rfl
theorem RoundTrip.out_atC_B : RoundTrip.Statement (.out_atC_B) := fun _ _ => rfl
theorem RoundTrip.in_C_atC : RoundTrip.Statement (.in_C_atC) := fun _ _ => rfl
theorem RoundTrip.out_atC_C : RoundTrip.Statement (.out_atC_C) := fun _ _ => rfl
theorem RoundTrip.in_D_atC : RoundTrip.Statement (.in_D_atC) := fun _ _ => rfl
theorem RoundTrip.out_atC_D : RoundTrip.Statement (.out_atC_D) := fun _ _ => rfl
theorem RoundTrip.in_E_atC : RoundTrip.Statement (.in_E_atC) := fun _ _ => rfl
theorem RoundTrip.out_atC_E : RoundTrip.Statement (.out_atC_E) := fun _ _ => rfl
theorem RoundTrip.in_H_atC : RoundTrip.Statement (.in_H_atC) := fun _ _ => rfl
theorem RoundTrip.out_atC_H : RoundTrip.Statement (.out_atC_H) := fun _ _ => rfl
theorem RoundTrip.in_L_atC : RoundTrip.Statement (.in_L_atC) := fun _ _ => rfl
theorem RoundTrip.out_atC_L : RoundTrip.Statement (.out_atC_L) := fun _ _ => rfl
theorem RoundTrip.in_atC : RoundTrip.Statement (.in_atC) := fun _ _ => rfl
theorem RoundTrip.out_atC_0 : RoundTrip.Statement (.out_atC_0) := fun _ _ => rfl
theorem RoundTrip.in_A_atC : RoundTrip.Statement (.in_A_atC) := fun _ _ => rfl
theorem RoundTrip.out_atC_A : RoundTrip.Statement (.out_atC_A) := fun _ _ => rfl
theorem RoundTrip.sbc_HL_BC : RoundTrip.Statement (.sbc_HL_BC) := fun _ _ => rfl
theorem RoundTrip.adc_HL_BC : RoundTrip.Statement (.adc_HL_BC) := fun _ _ => rfl
theorem RoundTrip.ld_atNn_BC (nn : Word) : RoundTrip.Statement (.ld_atNn_BC nn) := fun _ rest =>
  congrArg (fun w => Except.ok (Instr.ld_atNn_BC w, rest)) (Machine.joinBytes_hi_lo nn)
theorem RoundTrip.ld_BC_atNn (nn : Word) : RoundTrip.Statement (.ld_BC_atNn nn) := fun _ rest =>
  congrArg (fun w => Except.ok (Instr.ld_BC_atNn w, rest)) (Machine.joinBytes_hi_lo nn)
theorem RoundTrip.sbc_HL_DE : RoundTrip.Statement (.sbc_HL_DE) := fun _ _ => rfl
theorem RoundTrip.adc_HL_DE : RoundTrip.Statement (.adc_HL_DE) := fun _ _ => rfl
theorem RoundTrip.ld_atNn_DE (nn : Word) : RoundTrip.Statement (.ld_atNn_DE nn) := fun _ rest =>
  congrArg (fun w => Except.ok (Instr.ld_atNn_DE w, rest)) (Machine.joinBytes_hi_lo nn)
theorem RoundTrip.ld_DE_atNn (nn : Word) : RoundTrip.Statement (.ld_DE_atNn nn) := fun _ rest =>
  congrArg (fun w => Except.ok (Instr.ld_DE_atNn w, rest)) (Machine.joinBytes_hi_lo nn)
theorem RoundTrip.sbc_HL_HL : RoundTrip.Statement (.sbc_HL_HL) := fun _ _ => rfl
theorem RoundTrip.adc_HL_HL : RoundTrip.Statement (.adc_HL_HL) := fun _ _ => rfl
theorem RoundTrip.ld_atNn_HL_ed (nn : Word) : RoundTrip.Statement (.ld_atNn_HL_ed nn) := fun _ rest =>
  congrArg (fun w => Except.ok (Instr.ld_atNn_HL_ed w, rest)) (Machine.joinBytes_hi_lo nn)
theorem RoundTrip.ld_HL_atNn_ed (nn : Word) : RoundTrip.Statement (.ld_HL_atNn_ed nn) := fun _ rest =>
  congrArg (fun w => Except.ok (Instr.ld_HL_atNn_ed w, rest)) (Machine.joinBytes_hi_lo nn)
theorem RoundTrip.sbc_HL_SP : RoundTrip.Statement (.sbc_HL_SP) := fun _ _ => rfl
theorem RoundTrip.adc_HL_SP : RoundTrip.Statement (.adc_HL_SP) := fun _ _ => rfl
theorem RoundTrip.ld_atNn_SP (nn : Word) : RoundTrip.Statement (.ld_atNn_SP nn) := fun _ rest =>
  congrArg (fun w => Except.ok (Instr.ld_atNn_SP w, rest)) (Machine.joinBytes_hi_lo nn)
theorem RoundTrip.ld_SP_atNn (nn : Word) : RoundTrip.Statement (.ld_SP_atNn nn) := fun _ rest =>
  congrArg (fun w => Except.ok (Instr.ld_SP_atNn w, rest)) (Machine.joinBytes_hi_lo nn)
theorem RoundTrip.neg : RoundTrip.Statement (.neg) := fun _ _ => rfl
theorem RoundTrip.retn : RoundTrip.Statement (.retn) := fun _ _ => rfl
theorem RoundTrip.reti : RoundTrip.Statement (.reti) := fun _ _ => rfl
theorem RoundTrip.im_0 : RoundTrip.Statement (.im_0) := fun _ _ => rfl
theorem RoundTrip.im_1 : RoundTrip.Statement (.im_1) := fun _ _ => rfl
theorem RoundTrip.im_2 : RoundTrip.Statement (.im_2) := fun _ _ => rfl
theorem RoundTrip.ld_I_A : RoundTrip.Statement (.ld_I_A) := fun _ _ => rfl
theorem RoundTrip.ld_R_A : RoundTrip.Statement (.ld_R_A) := fun _ _ => rfl
theorem RoundTrip.ld_A_I : RoundTrip.Statement (.ld_A_I) := fun _ _ => rfl
theorem RoundTrip.ld_A_R : RoundTrip.Statement (.ld_A_R) := fun _ _ => rfl
theorem RoundTrip.rrd : RoundTrip.Statement (.rrd) := fun _ _ => rfl
theorem RoundTrip.rld : RoundTrip.Statement (.rld) := fun _ _ => rfl
theorem RoundTrip.ldi : RoundTrip.Statement (.ldi) := fun _ _ => rfl
theorem RoundTrip.cpi : RoundTrip.Statement (.cpi) := fun _ _ => rfl
theorem RoundTrip.ini : RoundTrip.Statement (.ini) := fun _ _ => rfl
theorem RoundTrip.outi : RoundTrip.Statement (.outi) := fun _ _ => rfl
theorem RoundTrip.ldd : RoundTrip.Statement (.ldd) := fun _ _ => rfl
theorem RoundTrip.cpd : RoundTrip.Statement (.cpd) := fun _ _ => rfl
theorem RoundTrip.ind : RoundTrip.Statement (.ind) := fun _ _ => rfl
theorem RoundTrip.outd : RoundTrip.Statement (.outd) := fun _ _ => rfl
theorem RoundTrip.ldir : RoundTrip.Statement (.ldir) := fun _ _ => rfl
theorem RoundTrip.cpir : RoundTrip.Statement (.cpir) := fun _ _ => rfl
theorem RoundTrip.inir : RoundTrip.Statement (.inir) := fun _ _ => rfl
theorem RoundTrip.otir : RoundTrip.Statement (.otir) := fun _ _ => rfl
theorem RoundTrip.lddr : RoundTrip.Statement (.lddr) := fun _ _ => rfl
theorem RoundTrip.cpdr : RoundTrip.Statement (.cpdr) := fun _ _ => rfl
theorem RoundTrip.indr : RoundTrip.Statement (.indr) := fun _ _ => rfl
theorem RoundTrip.otdr : RoundTrip.Statement (.otdr) := fun _ _ => rfl
theorem RoundTrip.add_IX_BC : RoundTrip.Statement (.add_IX_BC) := fun _ _ => rfl
theorem RoundTrip.add_IX_DE : RoundTrip.Statement (.add_IX_DE) := fun _ _ => rfl
theorem RoundTrip.add_IX_IX : RoundTrip.Statement (.add_IX_IX) := fun _ _ => rfl
theorem RoundTrip.add_IX_SP : RoundTrip.Statement (.add_IX_SP) := fun _ _ => rfl
theorem RoundTrip.ld_IX_nn (nn : Word) : RoundTrip.Statement (.ld_IX_nn nn) := fun _ rest =>
  congrArg (fun w => Except.ok (Instr.ld_IX_nn w, rest)) (Machine.joinBytes_hi_lo nn)
theorem RoundTrip.ld_atNn_IX (nn : Word) : RoundTrip.Statement (.ld_atNn_IX nn) := fun _ rest =>
  congrArg (fun w => Except.ok (Instr.ld_atNn_IX w, rest)) (Machine.joinBytes_hi_lo nn)
theorem RoundTrip.ld_IX_atNn (nn : Word) : RoundTrip.Statement (.ld_IX_atNn nn) := fun _ rest =>
  congrArg (fun w => Except.ok (Instr.ld_IX_atNn w, rest)) (Machine.joinBytes_hi_lo nn)
theorem RoundTrip.inc_IX : RoundTrip.Statement (.inc_IX) := fun _ _ => rfl
theorem RoundTrip.dec_IX : RoundTrip.Statement (.dec_IX) := fun _ _ => rfl
theorem RoundTrip.inc_IXH : RoundTrip.Statement (.inc_IXH) := fun _ _ => rfl
theorem RoundTrip.dec_IXH : RoundTrip.Statement (.dec_IXH) := fun _ _ => rfl
theorem RoundTrip.ld_IXH_n (n : Byte) : RoundTrip.Statement (.ld_IXH_n n) := fun _ _ => rfl
theorem RoundTrip.inc_IXL : RoundTrip.Statement (.inc_IXL) := fun _ _ => rfl
theorem RoundTrip.dec_IXL : RoundTrip.Statement (.dec_IXL) := fun _ _ => rfl
theorem RoundTrip.ld_IXL_n (n : Byte) : RoundTrip.Statement (.ld_IXL_n n) := fun _ _ => rfl
theorem RoundTrip.inc_atIXd (d : Byte) : RoundTrip.Statement (.inc_atIXd d) := fun _ _ => rfl
theorem RoundTrip.dec_atIXd (d : Byte) : RoundTrip.Statement (.dec_atIXd d) := fun _ _ => rfl
theorem RoundTrip.ld_atIXd_n (d : Byte) (n : Byte) : RoundTrip.Statement (.ld_atIXd_n d n) := fun _ _ => rfl
theorem RoundTrip.ld_B_IXH : RoundTrip.Statement (.ld_B_IXH) := fun _ _ => rfl
theorem RoundTrip.ld_B_IXL : RoundTrip.Statement (.ld_B_IXL) := fun _ _ => rfl
theorem RoundTrip.ld_B_atIXd (d : Byte) : RoundTrip.Statement (.ld_B_atIXd d) := fun _ _ => rfl
theorem RoundTrip.ld_C_IXH : RoundTrip.Statement (.ld_C_IXH) := fun _ _ => rfl
theorem RoundTrip.ld_C_IXL : RoundTrip.Statement (.ld_C_IXL) := fun _ _ => rfl
theorem RoundTrip.ld_C_atIXd (d : Byte) : RoundTrip.Statement (.ld_C_atIXd d) := fun _ _ => rfl
theorem RoundTrip.ld_D_IXH : RoundTrip.Statement (.ld_D_IXH) := fun _ _ => rfl
theorem RoundTrip.ld_D_IXL : RoundTrip.Statement (.ld_D_IXL) := fun _ _ => rfl
theorem RoundTrip.ld_D_atIXd (d : Byte) : RoundTrip.Statement (.ld_D_atIXd d) := fun _ _ => rfl
theorem RoundTrip.ld_E_IXH : RoundTrip.Statement (.ld_E_IXH) := fun _ _ => rfl
theorem RoundTrip.ld_E_IXL : RoundTrip.Statement (.ld_E_IXL) := fun _ _ => rfl
theorem RoundTrip.ld_E_atIXd (d : Byte) : RoundTrip.Statement (.ld_E_atIXd d) := fun _ _ => rfl
theorem RoundTrip.ld_IXH_B : RoundTrip.Statement (.ld_IXH_B) := fun _ _ => rfl
theorem RoundTrip.ld_IXH_C : RoundTrip.Statement (.ld_IXH_C) := fun _ _ => rfl
theorem RoundTrip.ld_IXH_D : RoundTrip.Statement (.ld_IXH_D) := fun _ _ => rfl
theorem RoundTrip.ld_IXH_E : RoundTrip.Statement (.ld_IXH_E) := fun _ _ => rfl
theorem RoundTrip.ld_IXH_IXH : RoundTrip.Statement (.ld_IXH_IXH) := fun _ _ => rfl
theorem RoundTrip.ld_IXH_IXL : RoundTrip.Statement (.ld_IXH_IXL) := fun _ _ => rfl
theorem RoundTrip.ld_H_atIXd (d : Byte) : RoundTrip.Statement (.ld_H_atIXd d) := fun _ _ => rfl
theorem RoundTrip.ld_IXH_A : RoundTrip.Statement (.ld_IXH_A) := fun _ _ => rfl
theorem RoundTrip.ld_IXL_B : RoundTrip.Statement (.ld_IXL_B) := fun _ _ => rfl
theorem RoundTrip.ld_IXL_C : RoundTrip.Statement (.ld_IXL_C) := fun _ _ => rfl
theorem RoundTrip.ld_IXL_D : RoundTrip.Statement (.ld_IXL_D) := fun _ _ => rfl
theorem RoundTrip.ld_IXL_E : RoundTrip.Statement (.ld_IXL_E) := fun _ _ => rfl
theorem RoundTrip.ld_IXL_IXH : RoundTrip.Statement (.ld_IXL_IXH) := fun _ _ => rfl
theorem RoundTrip.ld_IXL_IXL : RoundTrip.Statement (.ld_IXL_IXL) := fun _ _ => rfl
theorem RoundTrip.ld_L_atIXd (d : Byte) : RoundTrip.Statement (.ld_L_atIXd d) := fun _ _ => rfl
theorem RoundTrip.ld_IXL_A : RoundTrip.Statement (.ld_IXL_A) := fun _ _ => rfl
theorem RoundTrip.ld_atIXd_B (d : Byte) : RoundTrip.Statement (.ld_atIXd_B d) := fun _ _ => rfl
theorem RoundTrip.ld_atIXd_C (d : Byte) : RoundTrip.Statement (.ld_atIXd_C d) := fun _ _ => rfl
theorem RoundTrip.ld_atIXd_D (d : Byte) : RoundTrip.Statement (.ld_atIXd_D d) := fun _ _ => rfl
theorem RoundTrip.ld_atIXd_E (d : Byte) : RoundTrip.Statement (.ld_atIXd_E d) := fun _ _ => rfl
theorem RoundTrip.ld_atIXd_H (d : Byte) : RoundTrip.Statement (.ld_atIXd_H d) := fun _ _ => rfl
theorem RoundTrip.ld_atIXd_L (d : Byte) : RoundTrip.Statement (.ld_atIXd_L d) := fun _ _ => rfl
theorem RoundTrip.ld_atIXd_A (d : Byte) : RoundTrip.Statement (.ld_atIXd_A d) := fun _ _ => rfl
theorem RoundTrip.ld_A_IXH : RoundTrip.Statement (.ld_A_IXH) := fun _ _ => rfl
theorem RoundTrip.ld_A_IXL : RoundTrip.Statement (.ld_A_IXL) := fun _ _ => rfl
theorem RoundTrip.ld_A_atIXd (d : Byte) : RoundTrip.Statement (.ld_A_atIXd d) := fun _ _ => rfl
theorem RoundTrip.add_A_IXH : RoundTrip.Statement (.add_A_IXH) := fun _ _ => rfl
theorem RoundTrip.add_A_IXL : RoundTrip.Statement (.add_A_IXL) := fun _ _ => rfl
theorem RoundTrip.add_A_atIXd (d : Byte) : RoundTrip.Statement (.add_A_atIXd d) := fun _ _ => rfl
theorem RoundTrip.adc_A_IXH : RoundTrip.Statement (.adc_A_IXH) := fun _ _ => rfl
theorem RoundTrip.adc_A_IXL : RoundTrip.Statement (.adc_A_IXL) := fun _ _ => rfl
theorem RoundTrip.adc_A_atIXd (d : Byte) : RoundTrip.Statement (.adc_A_atIXd d) := fun _ _ => rfl
theorem RoundTrip.sub_IXH : RoundTrip.Statement (.sub_IXH) := fun _ _ => rfl
theorem RoundTrip.sub_IXL : RoundTrip.Statement (.sub_IXL) := fun _ _ => rfl
theorem RoundTrip.sub_atIXd (d : Byte) : RoundTrip.Statement (.sub_atIXd d) := fun _ _ => rfl
theorem RoundTrip.sbc_A_IXH : RoundTrip.Statement (.sbc_A_IXH) := fun _ _ => rfl
theorem RoundTrip.sbc_A_IXL : RoundTrip.Statement (.sbc_A_IXL) := fun _ _ => rfl
theorem RoundTrip.sbc_A_atIXd (d : Byte) : RoundTrip.Statement (.sbc_A_atIXd d) := fun _ _ => rfl
theorem RoundTrip.and_IXH : RoundTrip.Statement (.and_IXH) := fun _ _ => rfl
theorem RoundTrip.and_IXL : RoundTrip.Statement (.and_IXL) := fun _ _ => rfl
theorem RoundTrip.and_atIXd (d : Byte) : RoundTrip.Statement (.and_atIXd d) := fun _ _ => rfl
theorem RoundTrip.xor_IXH : RoundTrip.Statement (.xor_IXH) := fun _ _ => rfl
theorem RoundTrip.xor_IXL : RoundTrip.Statement (.xor_IXL) := fun _ _ => rfl
theorem RoundTrip.xor_atIXd (d : Byte) : RoundTrip.Statement (.xor_atIXd d) := fun _ _ => rfl
theorem RoundTrip.or_IXH : RoundTrip.Statement (.or_IXH) := fun _ _ => rfl
theorem RoundTrip.or_IXL : RoundTrip.Statement (.or_IXL) := fun _ _ => rfl
theorem RoundTrip.or_atIXd (d : Byte) : RoundTrip.Statement (.or_atIXd d) := fun _ _ => rfl
theorem RoundTrip.cp_IXH : RoundTrip.Statement (.cp_IXH) := fun _ _ => rfl
theorem RoundTrip.cp_IXL : RoundTrip.Statement (.cp_IXL) := fun _ _ => rfl
theorem RoundTrip.cp_atIXd (d : Byte) : RoundTrip.Statement (.cp_atIXd d) := fun _ _ => rfl
theorem RoundTrip.pop_IX : RoundTrip.Statement (.pop_IX) := fun _ _ => rfl
theorem RoundTrip.push_IX : RoundTrip.Statement (.push_IX) := fun _ _ => rfl
theorem RoundTrip.ex_atSP_IX : RoundTrip.Statement (.ex_atSP_IX) := fun _ _ => rfl
theorem RoundTrip.jp_IX : RoundTrip.Statement (.jp_IX) := fun _ _ => rfl
theorem RoundTrip.ld_SP_IX : RoundTrip.Statement (.ld_SP_IX) := fun _ _ => rfl
theorem RoundTrip.rlc_atIXd (d : Byte) : RoundTrip.Statement (.rlc_atIXd d) := fun _ _ => rfl
theorem RoundTrip.rrc_atIXd (d : Byte) : RoundTrip.Statement (.rrc_atIXd d) := fun _ _ => rfl
theorem RoundTrip.rl_atIXd (d : Byte) : RoundTrip.Statement (.rl_atIXd d) := fun _ _ => rfl
theorem RoundTrip.rr_atIXd (d : Byte) : RoundTrip.Statement (.rr_atIXd d) := fun _ _ => rfl
theorem RoundTrip.sla_atIXd (d : Byte) : RoundTrip.Statement (.sla_atIXd d) := fun _ _ => rfl
theorem RoundTrip.sra_atIXd (d : Byte) : RoundTrip.Statement (.sra_atIXd d) := fun _ _ => rfl
theorem RoundTrip.sll_atIXd (d : Byte) : RoundTrip.Statement (.sll_atIXd d) := fun _ _ => rfl
theorem RoundTrip.srl_atIXd (d : Byte) : RoundTrip.Statement (.srl_atIXd d) := fun _ _ => rfl
theorem RoundTrip.bit_b_atIXd (b : Nat) (d : Byte) : RoundTrip.Statement (.bit_b_atIXd b d) := fun h rest =>
  bit_index_cases (p := fun b => decode (encode (.bit_b_atIXd b d) ++ rest) = .ok (.bit_b_atIXd b d, rest)) rfl rfl rfl rfl rfl rfl rfl rfl
    (of_decide_eq_true h)
theorem RoundTrip.res_b_atIXd (b : Nat) (d : Byte) : RoundTrip.Statement (.res_b_atIXd b d) := fun h rest =>
  bit_index_cases (p := fun b => decode (encode (.res_b_atIXd b d) ++ rest) = .ok (.res_b_atIXd b d, rest)) rfl rfl rfl rfl rfl rfl rfl rfl
    (of_decide_eq_true h)
theorem RoundTrip.set_b_atIXd (b : Nat) (d : Byte) : RoundTrip.Statement (.set_b_atIXd b d) := fun h rest =>
  bit_index_cases (p := fun b => decode (encode (.set_b_atIXd b d) ++ rest) = .ok (.set_b_atIXd b d, rest)) rfl rfl rfl rfl rfl rfl rfl rfl
    (of_decide_eq_true h)
theorem RoundTrip.add_IY_BC : RoundTrip.Statement (.add_IY_BC) := fun _ _ => rfl
theorem RoundTrip.add_IY_DE : RoundTrip.Statement (.add_IY_DE) := fun _ _ => rfl
theorem RoundTrip.add_IY_IY : RoundTrip.Statement (.add_IY_IY) := fun _ _ => rfl
theorem RoundTrip.add_IY_SP : RoundTrip.Statement (.add_IY_SP) := fun _ _ => rfl
theorem RoundTrip.ld_IY_nn (nn : Word) : RoundTrip.Statement (.ld_IY_nn nn) := fun _ rest =>
  congrArg (fun w => Except.ok (Instr.ld_IY_nn w, rest)) (Machine.joinBytes_hi_lo nn)
theorem RoundTrip.ld_atNn_IY (nn : Word) : RoundTrip.Statement (.ld_atNn_IY nn) := fun _ rest =>
  congrArg (fun w => Except.ok (Instr.ld_atNn_IY w, rest)) (Machine.joinBytes_hi_lo nn)
theorem RoundTrip.ld_IY_atNn (nn : Word) : RoundTrip.Statement (.ld_IY_atNn nn) := fun _ rest =>
  congrArg (fun w => Except.ok (Instr.ld_IY_atNn w, rest)) (Machine.joinBytes_hi_lo nn)
theorem RoundTrip.inc_IY : RoundTrip.Statement (.inc_IY) := fun _ _ => rfl
theorem RoundTrip.dec_IY : RoundTrip.Statement (.dec_IY) := fun _ _ => rfl
theorem RoundTrip.inc_IYH : RoundTrip.Statement (.inc_IYH) := fun _ _ => rfl
theorem RoundTrip.dec_IYH : RoundTrip.Statement (.dec_IYH) := fun _ _ => rfl
theorem RoundTrip.ld_IYH_n (n : Byte) : RoundTrip.Statement (.ld_IYH_n n) := fun _ _ => rfl
theorem RoundTrip.inc_IYL : RoundTrip.Statement (.inc_IYL) := fun _ _ => rfl
theorem RoundTrip.dec_IYL : RoundTrip.Statement (.dec_IYL) := fun _ _ => rfl
theorem RoundTrip.ld_IYL_n (n : Byte) : RoundTrip.Statement (.ld_IYL_n n) := fun _ _ => rfl
theorem RoundTrip.inc_atIYd (d : Byte) : RoundTrip.Statement (.inc_atIYd d) := fun _ _ => rfl
theorem RoundTrip.dec_atIYd (d : Byte) : RoundTrip.Statement (.dec_atIYd d) := fun _ _ => rfl
theorem RoundTrip.ld_atIYd_n (d : Byte) (n : Byte) : RoundTrip.Statement (.ld_atIYd_n d n) := fun _ _ => rfl
theorem RoundTrip.ld_B_IYH : RoundTrip.Statement (.ld_B_IYH) := fun _ _ => rfl
theorem RoundTrip.ld_B_IYL : RoundTrip.Statement (.ld_B_IYL) := fun _ _ => rfl
theorem RoundTrip.ld_B_atIYd (d : Byte) : RoundTrip.Statement (.ld_B_atIYd d) := fun _ _ => rfl
theorem RoundTrip.ld_C_IYH : RoundTrip.Statement (.ld_C_IYH) := fun _ _ => rfl
theorem RoundTrip.ld_C_IYL : RoundTrip.Statement (.ld_C_IYL) := fun _ _ => rfl
theorem RoundTrip.ld_C_atIYd (d : Byte) : RoundTrip.Statement (.ld_C_atIYd d) := fun _ _ => rfl
theorem RoundTrip.ld_D_IYH : RoundTrip.Statement (.ld_D_IYH) := fun _ _ => rfl
theorem RoundTrip.ld_D_IYL : RoundTrip.Statement (.ld_D_IYL) := fun _ _ => rfl
theorem RoundTrip.ld_D_atIYd (d : Byte) : RoundTrip.Statement (.ld_D_atIYd d) := fun _ _ => rfl
theorem RoundTrip.ld_E_IYH : RoundTrip.Statement (.ld_E_IYH) := fun _ _ => rfl
theorem RoundTrip.ld_E_IYL : RoundTrip.Statement (.ld_E_IYL) := fun _ _ => rfl
theorem RoundTrip.ld_E_atIYd (d : Byte) : RoundTrip.Statement (.ld_E_atIYd d) := fun _ _ => rfl
theorem RoundTrip.ld_IYH_B : RoundTrip.Statement (.ld_IYH_B) := fun _ _ => rfl
theorem RoundTrip.ld_IYH_C : RoundTrip.Statement (.ld_IYH_C) := fun _ _ => rfl
theorem RoundTrip.ld_IYH_D : RoundTrip.Statement (.ld_IYH_D) := fun _ _ => rfl
theorem RoundTrip.ld_IYH_E : RoundTrip.Statement (.ld_IYH_E) := fun _ _ => rfl
theorem RoundTrip.ld_IYH_IYH : RoundTrip.Statement (.ld_IYH_IYH) := fun _ _ => rfl
theorem RoundTrip.ld_IYH_IYL : RoundTrip.Statement (.ld_IYH_IYL) := fun _ _ => rfl
theorem RoundTrip.ld_H_atIYd (d : Byte) : RoundTrip.Statement (.ld_H_atIYd d) := fun _ _ => rfl
theorem RoundTrip.ld_IYH_A : RoundTrip.Statement (.ld_IYH_A) := fun _ _ => rfl
theorem RoundTrip.ld_IYL_B : RoundTrip.Statement (.ld_IYL_B) := fun _ _ => rfl
theorem RoundTrip.ld_IYL_C : RoundTrip.Statement (.ld_IYL_C) := fun _ _ => rfl
theorem RoundTrip.ld_IYL_D : RoundTrip.Statement (.ld_IYL_D) := fun _ _ => rfl
theorem RoundTrip.ld_IYL_E : RoundTrip.Statement (.ld_IYL_E) := fun _ _ => rfl
theorem RoundTrip.ld_IYL_IYH : RoundTrip.Statement (.ld_IYL_IYH) := fun _ _ => rfl
theorem RoundTrip.ld_IYL_IYL : RoundTrip.Statement (.ld_IYL_IYL) := fun _ _ => rfl
theorem RoundTrip.ld_L_atIYd (d : Byte) : RoundTrip.Statement (.ld_L_atIYd d) := fun _ _ => rfl
theorem RoundTrip.ld_IYL_A : RoundTrip.Statement (.ld_IYL_A) := fun _ _ => rfl
theorem RoundTrip.ld_atIYd_B (d : Byte) : RoundTrip.Statement (.ld_atIYd_B d) := fun _ _ => rfl
theorem RoundTrip.ld_atIYd_C (d : Byte) : RoundTrip.Statement (.ld_atIYd_C d) := fun _ _ => rfl
theorem RoundTrip.ld_atIYd_D (d : Byte) : RoundTrip.Statement (.ld_atIYd_D d) := fun _ _ => rfl
theorem RoundTrip.ld_atIYd_E (d : Byte) : RoundTrip.Statement (.ld_atIYd_E d) := fun _ _ => rfl
theorem RoundTrip.ld_atIYd_H (d : Byte) : RoundTrip.Statement (.ld_atIYd_H d) := fun _ _ => rfl
theorem RoundTrip.ld_atIYd_L (d : Byte) : RoundTrip.Statement (.ld_atIYd_L d) := fun _ _ => rfl
theorem RoundTrip.ld_atIYd_A (d : Byte) : RoundTrip.Statement (.ld_atIYd_A d) := fun _ _ => rfl
theorem RoundTrip.ld_A_IYH : RoundTrip.Statement (.ld_A_IYH) := fun _ _ => rfl
theorem RoundTrip.ld_A_IYL : RoundTrip.Statement (.ld_A_IYL) := fun _ _ => rfl
theorem RoundTrip.ld_A_atIYd (d : Byte) : RoundTrip.Statement (.ld_A_atIYd d) := fun _ _ => rfl
theorem RoundTrip.add_A_IYH : RoundTrip.Statement (.add_A_IYH) := fun _ _ => rfl
theorem RoundTrip.add_A_IYL : RoundTrip.Statement (.add_A_IYL) := fun _ _ => rfl
theorem RoundTrip.add_A_atIYd (d : Byte) : RoundTrip.Statement (.add_A_atIYd d) := fun _ _ => rfl
theorem RoundTrip.adc_A_IYH : RoundTrip.Statement (.adc_A_IYH) := fun _ _ => rfl
theorem RoundTrip.adc_A_IYL : RoundTrip.Statement (.adc_A_IYL) := fun _ _ => rfl
theorem RoundTrip.adc_A_atIYd (d : Byte) : RoundTrip.Statement (.adc_A_atIYd d) := fun _ _ => rfl
theorem RoundTrip.sub_IYH : RoundTrip.Statement (.sub_IYH) := fun _ _ => rfl
theorem RoundTrip.sub_IYL : RoundTrip.Statement (.sub_IYL) := fun _ _ => rfl
theorem RoundTrip.sub_atIYd (d : Byte) : RoundTrip.Statement (.sub_atIYd d) := fun _ _ => rfl
theorem RoundTrip.sbc_A_IYH : RoundTrip.Statement (.sbc_A_IYH) := fun _ _ => rfl
theorem RoundTrip.sbc_A_IYL : RoundTrip.Statement (.sbc_A_IYL) := fun _ _ => rfl
theorem RoundTrip.sbc_A_atIYd (d : Byte) : RoundTrip.Statement (.sbc_A_atIYd d) := fun _ _ => rfl
theorem RoundTrip.and_IYH : RoundTrip.Statement (.and_IYH) := fun _ _ => rfl
theorem RoundTrip.and_IYL : RoundTrip.Statement (.and_IYL) := fun _ _ => rfl
theorem RoundTrip.and_atIYd (d : Byte) : RoundTrip.Statement (.and_atIYd d) := fun _ _ => rfl
theorem RoundTrip.xor_IYH : RoundTrip.Statement (.xor_IYH) := fun _ _ => rfl
theorem RoundTrip.xor_IYL : RoundTrip.Statement (.xor_IYL) := fun _ _ => rfl
theorem RoundTrip.xor_atIYd (d : Byte) : RoundTrip.Statement (.xor_atIYd d) := fun _ _ => rfl
theorem RoundTrip.or_IYH : RoundTrip.Statement (.or_IYH) := fun _ _ => rfl
theorem RoundTrip.or_IYL : RoundTrip.Statement (.or_IYL) := fun _ _ => rfl
theorem RoundTrip.or_atIYd (d : Byte) : RoundTrip.Statement (.or_atIYd d) := fun _ _ => rfl
theorem RoundTrip.cp_IYH : RoundTrip.Statement (.cp_IYH) := fun _ _ => rfl
theorem RoundTrip.cp_IYL : RoundTrip.Statement (.cp_IYL) := fun _ _ => rfl
theorem RoundTrip.cp_atIYd (d : Byte) : RoundTrip.Statement (.cp_atIYd d) := fun _ _ => rfl
theorem RoundTrip.pop_IY : RoundTrip.Statement (.pop_IY) := fun _ _ => rfl
theorem RoundTrip.push_IY : RoundTrip.Statement (.push_IY) := fun _ _ => rfl
theorem RoundTrip.ex_atSP_IY : RoundTrip.Statement (.ex_atSP_IY) := fun _ _ => rfl
theorem RoundTrip.jp_IY : RoundTrip.Statement (.jp_IY) := fun _ _ => rfl
theorem RoundTrip.ld_SP_IY : RoundTrip.Statement (.ld_SP_IY) := fun _ _ => rfl
theorem RoundTrip.rlc_atIYd (d : Byte) : RoundTrip.Statement (.rlc_atIYd d) := fun _ _ => rfl
theorem RoundTrip.rrc_atIYd (d : Byte) : RoundTrip.Statement (.rrc_atIYd d) := fun _ _ => rfl
theorem RoundTrip.rl_atIYd (d : Byte) : RoundTrip.Statement (.rl_atIYd d) := fun _ _ => rfl
theorem RoundTrip.rr_atIYd (d : Byte) : RoundTrip.Statement (.rr_atIYd d) := fun _ _ => rfl
theorem RoundTrip.sla_atIYd (d : Byte) : RoundTrip.Statement (.sla_atIYd d) := fun _ _ => rfl
theorem RoundTrip.sra_atIYd (d : Byte) : RoundTrip.Statement (.sra_atIYd d) := fun _ _ => rfl
theorem RoundTrip.sll_atIYd (d : Byte) : RoundTrip.Statement (.sll_atIYd d) := fun _ _ => rfl
theorem RoundTrip.srl_atIYd (d : Byte) : RoundTrip.Statement (.srl_atIYd d) := fun _ _ => rfl
theorem RoundTrip.bit_b_atIYd (b : Nat) (d : Byte) : RoundTrip.Statement (.bit_b_atIYd b d) := fun h rest =>
  bit_index_cases (p := fun b => decode (encode (.bit_b_atIYd b d) ++ rest) = .ok (.bit_b_atIYd b d, rest)) rfl rfl rfl rfl rfl rfl rfl rfl
    (of_decide_eq_true h)
theorem RoundTrip.res_b_atIYd (b : Nat) (d : Byte) : RoundTrip.Statement (.res_b_atIYd b d) := fun h rest =>
  bit_index_cases (p := fun b => decode (encode (.res_b_atIYd b d) ++ rest) = .ok (.res_b_atIYd b d, rest)) rfl rfl rfl rfl rfl rfl rfl rfl
    (of_decide_eq_true h)
theorem RoundTrip.set_b_atIYd (b : Nat) (d : Byte) : RoundTrip.Statement (.set_b_atIYd b d) := fun h rest =>
  bit_index_cases (p := fun b => decode (encode (.set_b_atIYd b d) ++ rest) = .ok (.set_b_atIYd b d, rest)) rfl rfl rfl rfl rfl rfl rfl rfl
    (of_decide_eq_true h)

end Sys2Proof.Laws
end

