-- ==== Sys2Proof/Tests/Slice0.lean ====
section
/-! SUPPORT. The model's own tests: terms that WellFormed refuses, a word of every constructor written from the
spec's encoding of it, single steps whose expected results are the spec's examples and vectors (95_test_vectors.md and
the "Example" lines of the rules), and, for every statement with hypotheses, a state and operands that meet them. -/

namespace Sys2Proof.Tests

open Sys2Proof Sys2Proof.Machine

set_option Elab.async false

/-! ### WellFormed: the one check is the bit index of `BIT`, `RES`, `SET` (rule R102) -/

theorem test_bit_index_eight_is_refused : (Instr.bit_b_A 8).wellFormed = false := by decide
theorem test_res_index_eight_is_refused : (Instr.res_b_atHL 8).wellFormed = false := by decide
theorem test_set_index_eight_is_refused : (Instr.set_b_atIXd 8 5).wellFormed = false := by decide
theorem test_bit_index_far_out_is_refused : (Instr.bit_b_atIYd 255 0x80).wellFormed = false := by decide
theorem test_bit_index_seven_is_accepted : (Instr.bit_b_atIYd 7 0x80).wellFormed = true := by decide
theorem test_any_immediate_is_accepted : (Instr.ld_atIXd_n 0xFF 0xFF).wellFormed = true := by decide

/-! ### Decoding -/

/-- These bytes, whatever follows, are this instruction; the table's number for them is too; and it encodes as them. -/
def readsAs (bytes : List Byte) (i : Instr) : Bool :=
  (match decode (bytes ++ [0xED, 0x00]) with
    | .ok (j, rest) => j == i && rest == [0xED, 0x00]
    | .error _ => false) &&
  decodeTableWord (8 * bytes.length) (bytes.foldr (fun b w => b.toNat + 256 * w) 0) == some i && encode i == bytes

/-- These bytes are refused for this reason. -/
def isRefused (bytes : List Byte) (error : DecodeError) : Bool :=
  match decode bytes with
  | .ok _ => false
  | .error e => e == error

/-- Words of the main page (rule R107), part 1: `n` 12, `nn` 1234, `d` FE, `e` 80, `b` 5. -/
def mainWords1 : List (List Byte × Instr) := [
    ([0x00], .nop), ([0x08], .ex_AF_AFshadow), ([0x10, 0x80], .djnz_e 0x80), ([0x18, 0x80], .jr_e 0x80),
    ([0x20, 0x80], .jr_NZ_e 0x80), ([0x28, 0x80], .jr_Z_e 0x80), ([0x30, 0x80], .jr_NC_e 0x80),
    ([0x38, 0x80], .jr_C_e 0x80), ([0x01, 0x34, 0x12], .ld_BC_nn 0x1234), ([0x09], .add_HL_BC), ([0x03], .inc_BC),
    ([0x0B], .dec_BC), ([0x11, 0x34, 0x12], .ld_DE_nn 0x1234), ([0x19], .add_HL_DE), ([0x13], .inc_DE),
    ([0x1B], .dec_DE), ([0x21, 0x34, 0x12], .ld_HL_nn 0x1234), ([0x29], .add_HL_HL), ([0x23], .inc_HL),
    ([0x2B], .dec_HL), ([0x31, 0x34, 0x12], .ld_SP_nn 0x1234), ([0x39], .add_HL_SP), ([0x33], .inc_SP),
    ([0x3B], .dec_SP), ([0x02], .ld_atBC_A), ([0x12], .ld_atDE_A), ([0x22, 0x34, 0x12], .ld_atNn_HL 0x1234),
    ([0x32, 0x34, 0x12], .ld_atNn_A 0x1234), ([0x0A], .ld_A_atBC), ([0x1A], .ld_A_atDE),
    ([0x2A, 0x34, 0x12], .ld_HL_atNn 0x1234), ([0x3A, 0x34, 0x12], .ld_A_atNn 0x1234), ([0x04], .inc_B),
    ([0x05], .dec_B), ([0x06, 0x12], .ld_B_n 0x12), ([0x0C], .inc_C), ([0x0D], .dec_C), ([0x0E, 0x12], .ld_C_n 0x12),
    ([0x14], .inc_D), ([0x15], .dec_D), ([0x16, 0x12], .ld_D_n 0x12), ([0x1C], .inc_E), ([0x1D], .dec_E),
    ([0x1E, 0x12], .ld_E_n 0x12), ([0x24], .inc_H), ([0x25], .dec_H), ([0x26, 0x12], .ld_H_n 0x12), ([0x2C], .inc_L),
    ([0x2D], .dec_L), ([0x2E, 0x12], .ld_L_n 0x12), ([0x34], .inc_atHL), ([0x35], .dec_atHL),
    ([0x36, 0x12], .ld_atHL_n 0x12), ([0x3C], .inc_A), ([0x3D], .dec_A), ([0x3E, 0x12], .ld_A_n 0x12),
    ([0x07], .rlca), ([0x0F], .rrca), ([0x17], .rla), ([0x1F], .rra), ([0x27], .daa), ([0x2F], .cpl), ([0x37], .scf),
    ([0x3F], .ccf)]

/-- Words of the main page (rule R107), part 2: `n` 12, `nn` 1234, `d` FE, `e` 80, `b` 5. -/
def mainWords2 : List (List Byte × Instr) := [
    ([0x40], .ld_B_B), ([0x41], .ld_B_C), ([0x42], .ld_B_D), ([0x43], .ld_B_E), ([0x44], .ld_B_H), ([0x45], .ld_B_L),
    ([0x46], .ld_B_atHL), ([0x47], .ld_B_A), ([0x48], .ld_C_B), ([0x49], .ld_C_C), ([0x4A], .ld_C_D),
    ([0x4B], .ld_C_E), ([0x4C], .ld_C_H), ([0x4D], .ld_C_L), ([0x4E], .ld_C_atHL), ([0x4F], .ld_C_A),
    ([0x50], .ld_D_B), ([0x51], .ld_D_C), ([0x52], .ld_D_D), ([0x53], .ld_D_E), ([0x54], .ld_D_H), ([0x55], .ld_D_L),
    ([0x56], .ld_D_atHL), ([0x57], .ld_D_A), ([0x58], .ld_E_B), ([0x59], .ld_E_C), ([0x5A], .ld_E_D),
    ([0x5B], .ld_E_E), ([0x5C], .ld_E_H), ([0x5D], .ld_E_L), ([0x5E], .ld_E_atHL), ([0x5F], .ld_E_A),
    ([0x60], .ld_H_B), ([0x61], .ld_H_C), ([0x62], .ld_H_D), ([0x63], .ld_H_E), ([0x64], .ld_H_H), ([0x65], .ld_H_L),
    ([0x66], .ld_H_atHL), ([0x67], .ld_H_A), ([0x68], .ld_L_B), ([0x69], .ld_L_C), ([0x6A], .ld_L_D),
    ([0x6B], .ld_L_E), ([0x6C], .ld_L_H), ([0x6D], .ld_L_L), ([0x6E], .ld_L_atHL), ([0x6F], .ld_L_A),
    ([0x70], .ld_atHL_B), ([0x71], .ld_atHL_C), ([0x72], .ld_atHL_D), ([0x73], .ld_atHL_E), ([0x74], .ld_atHL_H),
    ([0x75], .ld_atHL_L), ([0x76], .halt), ([0x77], .ld_atHL_A), ([0x78], .ld_A_B), ([0x79], .ld_A_C),
    ([0x7A], .ld_A_D), ([0x7B], .ld_A_E), ([0x7C], .ld_A_H), ([0x7D], .ld_A_L), ([0x7E], .ld_A_atHL),
    ([0x7F], .ld_A_A)]

/-- Words of the main page (rule R107), part 3: `n` 12, `nn` 1234, `d` FE, `e` 80, `b` 5. -/
def mainWords3 : List (List Byte × Instr) := [
    ([0x80], .add_A_B), ([0x81], .add_A_C), ([0x82], .add_A_D), ([0x83], .add_A_E), ([0x84], .add_A_H),
    ([0x85], .add_A_L), ([0x86], .add_A_atHL), ([0x87], .add_A_A), ([0xC6, 0x12], .add_A_n 0x12), ([0x88], .adc_A_B),
    ([0x89], .adc_A_C), ([0x8A], .adc_A_D), ([0x8B], .adc_A_E), ([0x8C], .adc_A_H), ([0x8D], .adc_A_L),
    ([0x8E], .adc_A_atHL), ([0x8F], .adc_A_A), ([0xCE, 0x12], .adc_A_n 0x12), ([0x90], .sub_B), ([0x91], .sub_C),
    ([0x92], .sub_D), ([0x93], .sub_E), ([0x94], .sub_H), ([0x95], .sub_L), ([0x96], .sub_atHL), ([0x97], .sub_A),
    ([0xD6, 0x12], .sub_n 0x12), ([0x98], .sbc_A_B), ([0x99], .sbc_A_C), ([0x9A], .sbc_A_D), ([0x9B], .sbc_A_E),
    ([0x9C], .sbc_A_H), ([0x9D], .sbc_A_L), ([0x9E], .sbc_A_atHL), ([0x9F], .sbc_A_A), ([0xDE, 0x12], .sbc_A_n 0x12),
    ([0xA0], .and_B), ([0xA1], .and_C), ([0xA2], .and_D), ([0xA3], .and_E), ([0xA4], .and_H), ([0xA5], .and_L),
    ([0xA6], .and_atHL), ([0xA7], .and_A), ([0xE6, 0x12], .and_n 0x12), ([0xA8], .xor_B), ([0xA9], .xor_C),
    ([0xAA], .xor_D), ([0xAB], .xor_E), ([0xAC], .xor_H), ([0xAD], .xor_L), ([0xAE], .xor_atHL), ([0xAF], .xor_A),
    ([0xEE, 0x12], .xor_n 0x12), ([0xB0], .or_B), ([0xB1], .or_C), ([0xB2], .or_D), ([0xB3], .or_E), ([0xB4], .or_H),
    ([0xB5], .or_L), ([0xB6], .or_atHL), ([0xB7], .or_A), ([0xF6, 0x12], .or_n 0x12), ([0xB8], .cp_B)]

/-- Words of the main page (rule R107), part 4: `n` 12, `nn` 1234, `d` FE, `e` 80, `b` 5. -/
def mainWords4 : List (List Byte × Instr) := [
    ([0xB9], .cp_C), ([0xBA], .cp_D), ([0xBB], .cp_E), ([0xBC], .cp_H), ([0xBD], .cp_L), ([0xBE], .cp_atHL),
    ([0xBF], .cp_A), ([0xFE, 0x12], .cp_n 0x12), ([0xC0], .ret_NZ), ([0xC2, 0x34, 0x12], .jp_NZ_nn 0x1234),
    ([0xC4, 0x34, 0x12], .call_NZ_nn 0x1234), ([0xC7], .rst_00), ([0xC8], .ret_Z),
    ([0xCA, 0x34, 0x12], .jp_Z_nn 0x1234), ([0xCC, 0x34, 0x12], .call_Z_nn 0x1234), ([0xCF], .rst_08),
    ([0xD0], .ret_NC), ([0xD2, 0x34, 0x12], .jp_NC_nn 0x1234), ([0xD4, 0x34, 0x12], .call_NC_nn 0x1234),
    ([0xD7], .rst_10), ([0xD8], .ret_C), ([0xDA, 0x34, 0x12], .jp_C_nn 0x1234),
    ([0xDC, 0x34, 0x12], .call_C_nn 0x1234), ([0xDF], .rst_18), ([0xE0], .ret_PO),
    ([0xE2, 0x34, 0x12], .jp_PO_nn 0x1234), ([0xE4, 0x34, 0x12], .call_PO_nn 0x1234), ([0xE7], .rst_20),
    ([0xE8], .ret_PE), ([0xEA, 0x34, 0x12], .jp_PE_nn 0x1234), ([0xEC, 0x34, 0x12], .call_PE_nn 0x1234),
    ([0xEF], .rst_28), ([0xF0], .ret_P), ([0xF2, 0x34, 0x12], .jp_P_nn 0x1234),
    ([0xF4, 0x34, 0x12], .call_P_nn 0x1234), ([0xF7], .rst_30), ([0xF8], .ret_M),
    ([0xFA, 0x34, 0x12], .jp_M_nn 0x1234), ([0xFC, 0x34, 0x12], .call_M_nn 0x1234), ([0xFF], .rst_38),
    ([0xC1], .pop_BC), ([0xC5], .push_BC), ([0xD1], .pop_DE), ([0xD5], .push_DE), ([0xE1], .pop_HL),
    ([0xE5], .push_HL), ([0xF1], .pop_AF), ([0xF5], .push_AF), ([0xC9], .ret), ([0xD9], .exx), ([0xE9], .jp_HL),
    ([0xF9], .ld_SP_HL), ([0xC3, 0x34, 0x12], .jp_nn 0x1234), ([0xD3, 0x12], .out_atN_A 0x12),
    ([0xDB, 0x12], .in_A_atN 0x12), ([0xE3], .ex_atSP_HL), ([0xEB], .ex_DE_HL), ([0xF3], .di), ([0xFB], .ei),
    ([0xCD, 0x34, 0x12], .call_nn 0x1234)]

theorem test_decode_mainWords1 : (mainWords1.all fun w => readsAs w.1 w.2) = true := by decide +kernel

theorem test_decode_mainWords2 : (mainWords2.all fun w => readsAs w.1 w.2) = true := by decide +kernel

theorem test_decode_mainWords3 : (mainWords3.all fun w => readsAs w.1 w.2) = true := by decide +kernel

theorem test_decode_mainWords4 : (mainWords4.all fun w => readsAs w.1 w.2) = true := by decide +kernel

/-- Words of the `CB` page (rule R108), part 1: `n` 12, `nn` 1234, `d` FE, `e` 80, `b` 5. -/
def cbWords1 : List (List Byte × Instr) := [
    ([0xCB, 0x00], .rlc_B), ([0xCB, 0x01], .rlc_C), ([0xCB, 0x02], .rlc_D), ([0xCB, 0x03], .rlc_E),
    ([0xCB, 0x04], .rlc_H), ([0xCB, 0x05], .rlc_L), ([0xCB, 0x06], .rlc_atHL), ([0xCB, 0x07], .rlc_A),
    ([0xCB, 0x08], .rrc_B), ([0xCB, 0x09], .rrc_C), ([0xCB, 0x0A], .rrc_D), ([0xCB, 0x0B], .rrc_E),
    ([0xCB, 0x0C], .rrc_H), ([0xCB, 0x0D], .rrc_L), ([0xCB, 0x0E], .rrc_atHL), ([0xCB, 0x0F], .rrc_A),
    ([0xCB, 0x10], .rl_B), ([0xCB, 0x11], .rl_C), ([0xCB, 0x12], .rl_D), ([0xCB, 0x13], .rl_E), ([0xCB, 0x14], .rl_H),
    ([0xCB, 0x15], .rl_L), ([0xCB, 0x16], .rl_atHL), ([0xCB, 0x17], .rl_A), ([0xCB, 0x18], .rr_B),
    ([0xCB, 0x19], .rr_C), ([0xCB, 0x1A], .rr_D), ([0xCB, 0x1B], .rr_E), ([0xCB, 0x1C], .rr_H), ([0xCB, 0x1D], .rr_L),
    ([0xCB, 0x1E], .rr_atHL), ([0xCB, 0x1F], .rr_A), ([0xCB, 0x20], .sla_B), ([0xCB, 0x21], .sla_C),
    ([0xCB, 0x22], .sla_D), ([0xCB, 0x23], .sla_E), ([0xCB, 0x24], .sla_H), ([0xCB, 0x25], .sla_L),
    ([0xCB, 0x26], .sla_atHL), ([0xCB, 0x27], .sla_A), ([0xCB, 0x28], .sra_B), ([0xCB, 0x29], .sra_C),
    ([0xCB, 0x2A], .sra_D), ([0xCB, 0x2B], .sra_E), ([0xCB, 0x2C], .sra_H), ([0xCB, 0x2D], .sra_L),
    ([0xCB, 0x2E], .sra_atHL), ([0xCB, 0x2F], .sra_A), ([0xCB, 0x30], .sll_B), ([0xCB, 0x31], .sll_C),
    ([0xCB, 0x32], .sll_D), ([0xCB, 0x33], .sll_E), ([0xCB, 0x34], .sll_H), ([0xCB, 0x35], .sll_L),
    ([0xCB, 0x36], .sll_atHL), ([0xCB, 0x37], .sll_A), ([0xCB, 0x38], .srl_B), ([0xCB, 0x39], .srl_C),
    ([0xCB, 0x3A], .srl_D), ([0xCB, 0x3B], .srl_E), ([0xCB, 0x3C], .srl_H), ([0xCB, 0x3D], .srl_L),
    ([0xCB, 0x3E], .srl_atHL), ([0xCB, 0x3F], .srl_A)]

/-- Words of the `CB` page (rule R108), part 2: `n` 12, `nn` 1234, `d` FE, `e` 80, `b` 5. -/
def cbWords2 : List (List Byte × Instr) := [
    ([0xCB, 0x68], .bit_b_B 5), ([0xCB, 0x69], .bit_b_C 5), ([0xCB, 0x6A], .bit_b_D 5), ([0xCB, 0x6B], .bit_b_E 5),
    ([0xCB, 0x6C], .bit_b_H 5), ([0xCB, 0x6D], .bit_b_L 5), ([0xCB, 0x6E], .bit_b_atHL 5), ([0xCB, 0x6F], .bit_b_A 5),
    ([0xCB, 0xA8], .res_b_B 5), ([0xCB, 0xA9], .res_b_C 5), ([0xCB, 0xAA], .res_b_D 5), ([0xCB, 0xAB], .res_b_E 5),
    ([0xCB, 0xAC], .res_b_H 5), ([0xCB, 0xAD], .res_b_L 5), ([0xCB, 0xAE], .res_b_atHL 5), ([0xCB, 0xAF], .res_b_A 5),
    ([0xCB, 0xE8], .set_b_B 5), ([0xCB, 0xE9], .set_b_C 5), ([0xCB, 0xEA], .set_b_D 5), ([0xCB, 0xEB], .set_b_E 5),
    ([0xCB, 0xEC], .set_b_H 5), ([0xCB, 0xED], .set_b_L 5), ([0xCB, 0xEE], .set_b_atHL 5), ([0xCB, 0xEF], .set_b_A 5)]

theorem test_decode_cbWords1 : (cbWords1.all fun w => readsAs w.1 w.2) = true := by decide +kernel

theorem test_decode_cbWords2 : (cbWords2.all fun w => readsAs w.1 w.2) = true := by decide +kernel

/-- Words of the `ED` page (rule R109): `n` 12, `nn` 1234, `d` FE, `e` 80, `b` 5. -/
def edWords : List (List Byte × Instr) := [
    ([0xED, 0x40], .in_B_atC), ([0xED, 0x41], .out_atC_B), ([0xED, 0x48], .in_C_atC), ([0xED, 0x49], .out_atC_C),
    ([0xED, 0x50], .in_D_atC), ([0xED, 0x51], .out_atC_D), ([0xED, 0x58], .in_E_atC), ([0xED, 0x59], .out_atC_E),
    ([0xED, 0x60], .in_H_atC), ([0xED, 0x61], .out_atC_H), ([0xED, 0x68], .in_L_atC), ([0xED, 0x69], .out_atC_L),
    ([0xED, 0x70], .in_atC), ([0xED, 0x71], .out_atC_0), ([0xED, 0x78], .in_A_atC), ([0xED, 0x79], .out_atC_A),
    ([0xED, 0x42], .sbc_HL_BC), ([0xED, 0x4A], .adc_HL_BC), ([0xED, 0x43, 0x34, 0x12], .ld_atNn_BC 0x1234),
    ([0xED, 0x4B, 0x34, 0x12], .ld_BC_atNn 0x1234), ([0xED, 0x52], .sbc_HL_DE), ([0xED, 0x5A], .adc_HL_DE),
    ([0xED, 0x53, 0x34, 0x12], .ld_atNn_DE 0x1234), ([0xED, 0x5B, 0x34, 0x12], .ld_DE_atNn 0x1234),
    ([0xED, 0x62], .sbc_HL_HL), ([0xED, 0x6A], .adc_HL_HL), ([0xED, 0x63, 0x34, 0x12], .ld_atNn_HL_ed 0x1234),
    ([0xED, 0x6B, 0x34, 0x12], .ld_HL_atNn_ed 0x1234), ([0xED, 0x72], .sbc_HL_SP), ([0xED, 0x7A], .adc_HL_SP),
    ([0xED, 0x73, 0x34, 0x12], .ld_atNn_SP 0x1234), ([0xED, 0x7B, 0x34, 0x12], .ld_SP_atNn 0x1234),
    ([0xED, 0x44], .neg), ([0xED, 0x45], .retn), ([0xED, 0x4D], .reti), ([0xED, 0x46], .im_0), ([0xED, 0x56], .im_1),
    ([0xED, 0x5E], .im_2), ([0xED, 0x47], .ld_I_A), ([0xED, 0x4F], .ld_R_A), ([0xED, 0x57], .ld_A_I),
    ([0xED, 0x5F], .ld_A_R), ([0xED, 0x67], .rrd), ([0xED, 0x6F], .rld), ([0xED, 0xA0], .ldi), ([0xED, 0xA1], .cpi),
    ([0xED, 0xA2], .ini), ([0xED, 0xA3], .outi), ([0xED, 0xA8], .ldd), ([0xED, 0xA9], .cpd), ([0xED, 0xAA], .ind),
    ([0xED, 0xAB], .outd), ([0xED, 0xB0], .ldir), ([0xED, 0xB1], .cpir), ([0xED, 0xB2], .inir), ([0xED, 0xB3], .otir),
    ([0xED, 0xB8], .lddr), ([0xED, 0xB9], .cpdr), ([0xED, 0xBA], .indr), ([0xED, 0xBB], .otdr)]

theorem test_decode_edWords : (edWords.all fun w => readsAs w.1 w.2) = true := by decide +kernel

/-- Words of the `DD` page (rule R110), part 1: `n` 12, `nn` 1234, `d` FE, `e` 80, `b` 5. -/
def ddWords1 : List (List Byte × Instr) := [
    ([0xDD, 0x09], .add_IX_BC), ([0xDD, 0x19], .add_IX_DE), ([0xDD, 0x29], .add_IX_IX), ([0xDD, 0x39], .add_IX_SP),
    ([0xDD, 0x21, 0x34, 0x12], .ld_IX_nn 0x1234), ([0xDD, 0x22, 0x34, 0x12], .ld_atNn_IX 0x1234),
    ([0xDD, 0x2A, 0x34, 0x12], .ld_IX_atNn 0x1234), ([0xDD, 0x23], .inc_IX), ([0xDD, 0x2B], .dec_IX),
    ([0xDD, 0x24], .inc_IXH), ([0xDD, 0x25], .dec_IXH), ([0xDD, 0x26, 0x12], .ld_IXH_n 0x12),
    ([0xDD, 0x2C], .inc_IXL), ([0xDD, 0x2D], .dec_IXL), ([0xDD, 0x2E, 0x12], .ld_IXL_n 0x12),
    ([0xDD, 0x34, 0xFE], .inc_atIXd 0xFE), ([0xDD, 0x35, 0xFE], .dec_atIXd 0xFE),
    ([0xDD, 0x36, 0xFE, 0x12], .ld_atIXd_n 0xFE 0x12), ([0xDD, 0x44], .ld_B_IXH), ([0xDD, 0x45], .ld_B_IXL),
    ([0xDD, 0x46, 0xFE], .ld_B_atIXd 0xFE), ([0xDD, 0x4C], .ld_C_IXH), ([0xDD, 0x4D], .ld_C_IXL),
    ([0xDD, 0x4E, 0xFE], .ld_C_atIXd 0xFE), ([0xDD, 0x54], .ld_D_IXH), ([0xDD, 0x55], .ld_D_IXL),
    ([0xDD, 0x56, 0xFE], .ld_D_atIXd 0xFE), ([0xDD, 0x5C], .ld_E_IXH), ([0xDD, 0x5D], .ld_E_IXL),
    ([0xDD, 0x5E, 0xFE], .ld_E_atIXd 0xFE), ([0xDD, 0x60], .ld_IXH_B), ([0xDD, 0x61], .ld_IXH_C),
    ([0xDD, 0x62], .ld_IXH_D), ([0xDD, 0x63], .ld_IXH_E), ([0xDD, 0x64], .ld_IXH_IXH), ([0xDD, 0x65], .ld_IXH_IXL),
    ([0xDD, 0x66, 0xFE], .ld_H_atIXd 0xFE), ([0xDD, 0x67], .ld_IXH_A), ([0xDD, 0x68], .ld_IXL_B),
    ([0xDD, 0x69], .ld_IXL_C), ([0xDD, 0x6A], .ld_IXL_D), ([0xDD, 0x6B], .ld_IXL_E), ([0xDD, 0x6C], .ld_IXL_IXH),
    ([0xDD, 0x6D], .ld_IXL_IXL), ([0xDD, 0x6E, 0xFE], .ld_L_atIXd 0xFE), ([0xDD, 0x6F], .ld_IXL_A),
    ([0xDD, 0x70, 0xFE], .ld_atIXd_B 0xFE), ([0xDD, 0x71, 0xFE], .ld_atIXd_C 0xFE),
    ([0xDD, 0x72, 0xFE], .ld_atIXd_D 0xFE), ([0xDD, 0x73, 0xFE], .ld_atIXd_E 0xFE),
    ([0xDD, 0x74, 0xFE], .ld_atIXd_H 0xFE), ([0xDD, 0x75, 0xFE], .ld_atIXd_L 0xFE),
    ([0xDD, 0x77, 0xFE], .ld_atIXd_A 0xFE), ([0xDD, 0x7C], .ld_A_IXH), ([0xDD, 0x7D], .ld_A_IXL),
    ([0xDD, 0x7E, 0xFE], .ld_A_atIXd 0xFE), ([0xDD, 0x84], .add_A_IXH), ([0xDD, 0x85], .add_A_IXL),
    ([0xDD, 0x86, 0xFE], .add_A_atIXd 0xFE), ([0xDD, 0x8C], .adc_A_IXH), ([0xDD, 0x8D], .adc_A_IXL),
    ([0xDD, 0x8E, 0xFE], .adc_A_atIXd 0xFE), ([0xDD, 0x94], .sub_IXH), ([0xDD, 0x95], .sub_IXL)]

/-- Words of the `DD` page (rule R110), part 2: `n` 12, `nn` 1234, `d` FE, `e` 80, `b` 5. -/
def ddWords2 : List (List Byte × Instr) := [
    ([0xDD, 0x96, 0xFE], .sub_atIXd 0xFE), ([0xDD, 0x9C], .sbc_A_IXH), ([0xDD, 0x9D], .sbc_A_IXL),
    ([0xDD, 0x9E, 0xFE], .sbc_A_atIXd 0xFE), ([0xDD, 0xA4], .and_IXH), ([0xDD, 0xA5], .and_IXL),
    ([0xDD, 0xA6, 0xFE], .and_atIXd 0xFE), ([0xDD, 0xAC], .xor_IXH), ([0xDD, 0xAD], .xor_IXL),
    ([0xDD, 0xAE, 0xFE], .xor_atIXd 0xFE), ([0xDD, 0xB4], .or_IXH), ([0xDD, 0xB5], .or_IXL),
    ([0xDD, 0xB6, 0xFE], .or_atIXd 0xFE), ([0xDD, 0xBC], .cp_IXH), ([0xDD, 0xBD], .cp_IXL),
    ([0xDD, 0xBE, 0xFE], .cp_atIXd 0xFE), ([0xDD, 0xE1], .pop_IX), ([0xDD, 0xE5], .push_IX),
    ([0xDD, 0xE3], .ex_atSP_IX), ([0xDD, 0xE9], .jp_IX), ([0xDD, 0xF9], .ld_SP_IX)]

theorem test_decode_ddWords1 : (ddWords1.all fun w => readsAs w.1 w.2) = true := by decide +kernel

theorem test_decode_ddWords2 : (ddWords2.all fun w => readsAs w.1 w.2) = true := by decide +kernel

/-- Words of the `DD CB` page (rule R111): `n` 12, `nn` 1234, `d` FE, `e` 80, `b` 5. -/
def ddcbWords : List (List Byte × Instr) := [
    ([0xDD, 0xCB, 0xFE, 0x06], .rlc_atIXd 0xFE), ([0xDD, 0xCB, 0xFE, 0x0E], .rrc_atIXd 0xFE),
    ([0xDD, 0xCB, 0xFE, 0x16], .rl_atIXd 0xFE), ([0xDD, 0xCB, 0xFE, 0x1E], .rr_atIXd 0xFE),
    ([0xDD, 0xCB, 0xFE, 0x26], .sla_atIXd 0xFE), ([0xDD, 0xCB, 0xFE, 0x2E], .sra_atIXd 0xFE),
    ([0xDD, 0xCB, 0xFE, 0x36], .sll_atIXd 0xFE), ([0xDD, 0xCB, 0xFE, 0x3E], .srl_atIXd 0xFE),
    ([0xDD, 0xCB, 0xFE, 0x6E], .bit_b_atIXd 5 0xFE), ([0xDD, 0xCB, 0xFE, 0xAE], .res_b_atIXd 5 0xFE),
    ([0xDD, 0xCB, 0xFE, 0xEE], .set_b_atIXd 5 0xFE)]

theorem test_decode_ddcbWords : (ddcbWords.all fun w => readsAs w.1 w.2) = true := by decide +kernel

/-- Words of the `FD` page (rule R110), part 1: `n` 12, `nn` 1234, `d` FE, `e` 80, `b` 5. -/
def fdWords1 : List (List Byte × Instr) := [
    ([0xFD, 0x09], .add_IY_BC), ([0xFD, 0x19], .add_IY_DE), ([0xFD, 0x29], .add_IY_IY), ([0xFD, 0x39], .add_IY_SP),
    ([0xFD, 0x21, 0x34, 0x12], .ld_IY_nn 0x1234), ([0xFD, 0x22, 0x34, 0x12], .ld_atNn_IY 0x1234),
    ([0xFD, 0x2A, 0x34, 0x12], .ld_IY_atNn 0x1234), ([0xFD, 0x23], .inc_IY), ([0xFD, 0x2B], .dec_IY),
    ([0xFD, 0x24], .inc_IYH), ([0xFD, 0x25], .dec_IYH), ([0xFD, 0x26, 0x12], .ld_IYH_n 0x12),
    ([0xFD, 0x2C], .inc_IYL), ([0xFD, 0x2D], .dec_IYL), ([0xFD, 0x2E, 0x12], .ld_IYL_n 0x12),
    ([0xFD, 0x34, 0xFE], .inc_atIYd 0xFE), ([0xFD, 0x35, 0xFE], .dec_atIYd 0xFE),
    ([0xFD, 0x36, 0xFE, 0x12], .ld_atIYd_n 0xFE 0x12), ([0xFD, 0x44], .ld_B_IYH), ([0xFD, 0x45], .ld_B_IYL),
    ([0xFD, 0x46, 0xFE], .ld_B_atIYd 0xFE), ([0xFD, 0x4C], .ld_C_IYH), ([0xFD, 0x4D], .ld_C_IYL),
    ([0xFD, 0x4E, 0xFE], .ld_C_atIYd 0xFE), ([0xFD, 0x54], .ld_D_IYH), ([0xFD, 0x55], .ld_D_IYL),
    ([0xFD, 0x56, 0xFE], .ld_D_atIYd 0xFE), ([0xFD, 0x5C], .ld_E_IYH), ([0xFD, 0x5D], .ld_E_IYL),
    ([0xFD, 0x5E, 0xFE], .ld_E_atIYd 0xFE), ([0xFD, 0x60], .ld_IYH_B), ([0xFD, 0x61], .ld_IYH_C),
    ([0xFD, 0x62], .ld_IYH_D), ([0xFD, 0x63], .ld_IYH_E), ([0xFD, 0x64], .ld_IYH_IYH), ([0xFD, 0x65], .ld_IYH_IYL),
    ([0xFD, 0x66, 0xFE], .ld_H_atIYd 0xFE), ([0xFD, 0x67], .ld_IYH_A), ([0xFD, 0x68], .ld_IYL_B),
    ([0xFD, 0x69], .ld_IYL_C), ([0xFD, 0x6A], .ld_IYL_D), ([0xFD, 0x6B], .ld_IYL_E), ([0xFD, 0x6C], .ld_IYL_IYH),
    ([0xFD, 0x6D], .ld_IYL_IYL), ([0xFD, 0x6E, 0xFE], .ld_L_atIYd 0xFE), ([0xFD, 0x6F], .ld_IYL_A),
    ([0xFD, 0x70, 0xFE], .ld_atIYd_B 0xFE), ([0xFD, 0x71, 0xFE], .ld_atIYd_C 0xFE),
    ([0xFD, 0x72, 0xFE], .ld_atIYd_D 0xFE), ([0xFD, 0x73, 0xFE], .ld_atIYd_E 0xFE),
    ([0xFD, 0x74, 0xFE], .ld_atIYd_H 0xFE), ([0xFD, 0x75, 0xFE], .ld_atIYd_L 0xFE),
    ([0xFD, 0x77, 0xFE], .ld_atIYd_A 0xFE), ([0xFD, 0x7C], .ld_A_IYH), ([0xFD, 0x7D], .ld_A_IYL),
    ([0xFD, 0x7E, 0xFE], .ld_A_atIYd 0xFE), ([0xFD, 0x84], .add_A_IYH), ([0xFD, 0x85], .add_A_IYL),
    ([0xFD, 0x86, 0xFE], .add_A_atIYd 0xFE), ([0xFD, 0x8C], .adc_A_IYH), ([0xFD, 0x8D], .adc_A_IYL),
    ([0xFD, 0x8E, 0xFE], .adc_A_atIYd 0xFE), ([0xFD, 0x94], .sub_IYH), ([0xFD, 0x95], .sub_IYL)]

/-- Words of the `FD` page (rule R110), part 2: `n` 12, `nn` 1234, `d` FE, `e` 80, `b` 5. -/
def fdWords2 : List (List Byte × Instr) := [
    ([0xFD, 0x96, 0xFE], .sub_atIYd 0xFE), ([0xFD, 0x9C], .sbc_A_IYH), ([0xFD, 0x9D], .sbc_A_IYL),
    ([0xFD, 0x9E, 0xFE], .sbc_A_atIYd 0xFE), ([0xFD, 0xA4], .and_IYH), ([0xFD, 0xA5], .and_IYL),
    ([0xFD, 0xA6, 0xFE], .and_atIYd 0xFE), ([0xFD, 0xAC], .xor_IYH), ([0xFD, 0xAD], .xor_IYL),
    ([0xFD, 0xAE, 0xFE], .xor_atIYd 0xFE), ([0xFD, 0xB4], .or_IYH), ([0xFD, 0xB5], .or_IYL),
    ([0xFD, 0xB6, 0xFE], .or_atIYd 0xFE), ([0xFD, 0xBC], .cp_IYH), ([0xFD, 0xBD], .cp_IYL),
    ([0xFD, 0xBE, 0xFE], .cp_atIYd 0xFE), ([0xFD, 0xE1], .pop_IY), ([0xFD, 0xE5], .push_IY),
    ([0xFD, 0xE3], .ex_atSP_IY), ([0xFD, 0xE9], .jp_IY), ([0xFD, 0xF9], .ld_SP_IY)]

theorem test_decode_fdWords1 : (fdWords1.all fun w => readsAs w.1 w.2) = true := by decide +kernel

theorem test_decode_fdWords2 : (fdWords2.all fun w => readsAs w.1 w.2) = true := by decide +kernel

/-- Words of the `FD CB` page (rule R111): `n` 12, `nn` 1234, `d` FE, `e` 80, `b` 5. -/
def fdcbWords : List (List Byte × Instr) := [
    ([0xFD, 0xCB, 0xFE, 0x06], .rlc_atIYd 0xFE), ([0xFD, 0xCB, 0xFE, 0x0E], .rrc_atIYd 0xFE),
    ([0xFD, 0xCB, 0xFE, 0x16], .rl_atIYd 0xFE), ([0xFD, 0xCB, 0xFE, 0x1E], .rr_atIYd 0xFE),
    ([0xFD, 0xCB, 0xFE, 0x26], .sla_atIYd 0xFE), ([0xFD, 0xCB, 0xFE, 0x2E], .sra_atIYd 0xFE),
    ([0xFD, 0xCB, 0xFE, 0x36], .sll_atIYd 0xFE), ([0xFD, 0xCB, 0xFE, 0x3E], .srl_atIYd 0xFE),
    ([0xFD, 0xCB, 0xFE, 0x6E], .bit_b_atIYd 5 0xFE), ([0xFD, 0xCB, 0xFE, 0xAE], .res_b_atIYd 5 0xFE),
    ([0xFD, 0xCB, 0xFE, 0xEE], .set_b_atIYd 5 0xFE)]

theorem test_decode_fdcbWords : (fdcbWords.all fun w => readsAs w.1 w.2) = true := by decide +kernel

/-- The refused lines of 95_test_vectors.md T10, and one of each kind of rule R118. -/
theorem test_unassigned_words_are_refused :
    ([([0xED, 0x00], .unassignedED), ([0xED, 0x4C], .unassignedED), ([0xED, 0x4E], .unassignedED),
      ([0xED, 0x54], .unassignedED), ([0xED, 0x55], .unassignedED), ([0xED, 0x5D], .unassignedED),
      ([0xED, 0x66], .unassignedED), ([0xED, 0x77], .unassignedED), ([0xED, 0xA4], .unassignedED),
      ([0xED, 0xFF], .unassignedED), ([0xDD, 0x00], .unassignedIndex), ([0xDD, 0x76], .unassignedIndex),
      ([0xDD, 0xEB], .unassignedIndex), ([0xFD, 0xEB], .unassignedIndex), ([0xDD, 0xDD, 0x21], .unassignedIndex),
      ([0xDD, 0xFD, 0x21], .unassignedIndex), ([0xFD, 0xED, 0x44], .unassignedIndex),
      ([0xDD, 0xCB, 0x05, 0x40], .unassignedIndexBit), ([0xFD, 0xCB, 0x05, 0xC7], .unassignedIndexBit),
      ([0xDD, 0x36, 0x05], .truncated), ([], .truncated)] :
        List (List Byte × DecodeError)).all (fun w => isRefused w.1 w.2) = true := by decide +kernel

/-- The decoded lines of T10 that the lists above do not hold. -/
theorem test_vectors_T10_decode :
    ([([0x76], .halt), ([0xDD, 0x36, 0xFE, 0x12], .ld_atIXd_n 0xFE 0x12), ([0xDD, 0x66, 0x05], .ld_H_atIXd 5),
      ([0xDD, 0x74, 0x01], .ld_atIXd_H 1), ([0xFD, 0x6E, 0x80], .ld_L_atIYd 0x80),
      ([0xCB, 0x46], .bit_b_atHL 0), ([0xDD, 0xCB, 0x05, 0x46], .bit_b_atIXd 0 5),
      ([0xFD, 0xCB, 0xFF, 0xFE], .set_b_atIYd 7 0xFF), ([0xED, 0x6B, 0x34, 0x12], .ld_HL_atNn_ed 0x1234),
      ([0xED, 0x63, 0x00, 0x00], .ld_atNn_HL_ed 0)] :
        List (List Byte × Instr)).all (fun w => readsAs w.1 w.2) = true := by decide +kernel

/-! ### Single instructions -/

/-- A state in the middle of a run: `SP` at $9000, `PC` at $0100, no flag set. -/
def base : State := { State.reset with a := 0, f := Flags.allClear, sp := 0x9000, pc := 0x0100 }

/-- A state with bytes placed in memory. -/
def State.holding (cells : List (Word × Byte)) (s : State) : State :=
  { s with mem := cells.foldl (fun m c => Memory.write m c.1.toNat c.2) s.mem }

/-- Executing an instruction ends in a next state that passes a check. -/
def runsTo (i : Instr) (s : State) (check : State → Bool) : Bool :=
  match exec i s with
  | .next t => check t
  | .fault _ => false
  | .refused _ => false

/-- One step ends in a next state that passes a check. -/
def stepsTo (s : State) (check : State → Bool) : Bool :=
  match step s with
  | .next t => check t
  | .fault _ => false
  | .refused _ => false

/-- One step is refused for this reason. -/
def stepRefused (s : State) (r : Refusal) : Bool :=
  match step s with
  | .next _ => false
  | .fault _ => false
  | .refused q => q == r

/-- A flag in the vectors' notation: 0, 1, `-` (3: kept), `?` (anything else: undefined). -/
def flagIs (old new : Bool) : Nat → Bool
  | 0 => !new
  | 1 => new
  | 3 => new == old
  | _ => true

/-- `S Z H PV N C`, the order of 95_test_vectors.md. -/
def flagsAre (old new : Flags) (want : List Nat) : Bool :=
  flagIs old.s new.s (want.getD 0 2) && flagIs old.z new.z (want.getD 1 2) && flagIs old.h new.h (want.getD 2 2) &&
    flagIs old.pv new.pv (want.getD 3 2) && flagIs old.n new.n (want.getD 4 2) && flagIs old.c new.c (want.getD 5 2)

/-- An instruction on `A`: from `A`, `H`, `N` and `C`, to `A` and the flags. -/
def onA (i : Instr) (a : Byte) (h n c : Bool) (result : Byte) (want : List Nat) : Bool :=
  let s : State := { base with a := a, f := { Flags.allClear with h := h, n := n, c := c } }
  runsTo i s fun t => t.a == result && flagsAre s.f t.f want

/-- T1 and the examples of rules R130, R131. -/
theorem test_add_adc :
    (onA (.add_A_n 0x01) 0x7F false false false 0x80 [1, 0, 1, 1, 0, 0] &&
      onA (.add_A_n 0x01) 0xFF false false false 0x00 [0, 1, 1, 0, 0, 1] &&
      onA (.add_A_n 0x80) 0x80 false false true 0x00 [0, 1, 0, 1, 0, 1] &&
      onA (.add_A_n 0x11) 0x44 false true false 0x55 [0, 0, 0, 0, 0, 0] &&
      onA (.adc_A_n 0x00) 0xFF false false true 0x00 [0, 1, 1, 0, 0, 1] &&
      onA (.adc_A_n 0x00) 0x7F false false true 0x80 [1, 0, 1, 1, 0, 0] &&
      onA (.adc_A_n 0xFF) 0xFF false false true 0xFF [1, 0, 1, 0, 0, 1]) = true := by decide +kernel

/-- T1 and the examples of rules R132, R133. -/
theorem test_sub_sbc :
    (onA (.sub_n 0x01) 0x00 false false false 0xFF [1, 0, 1, 0, 1, 1] &&
      onA (.sub_n 0x80) 0x7F false false true 0xFF [1, 0, 0, 1, 1, 1] &&
      onA (.sub_n 0x7F) 0x80 false false false 0x01 [0, 0, 1, 1, 1, 0] &&
      onA .sub_A 0x5A true false true 0x00 [0, 1, 0, 0, 1, 0] &&
      onA (.sbc_A_n 0xFF) 0x00 false false true 0x00 [0, 1, 1, 0, 1, 1] &&
      onA (.sbc_A_n 0x00) 0x80 false false true 0x7F [0, 0, 1, 1, 1, 0] &&
      onA .sbc_A_A 0x12 false false true 0xFF [1, 0, 1, 0, 1, 1]) = true := by decide +kernel

/-- S5 and S9. -/
theorem test_cp_neg :
    (onA (.cp_n 0x05) 0x05 false false false 0x05 [0, 1, 0, 0, 1, 0] &&
      onA (.cp_n 0x80) 0x7F false false false 0x7F [1, 0, 0, 1, 1, 1] &&
      onA (.cp_n 0x7F) 0x80 false false false 0x80 [0, 0, 1, 1, 1, 0] &&
      onA (.cp_n 0xFF) 0xFE false false false 0xFE [1, 0, 1, 0, 1, 1] &&
      onA .neg 0x98 false false false 0x68 [0, 0, 1, 0, 1, 1] &&
      onA .neg 0x00 false false true 0x00 [0, 1, 0, 0, 1, 0] &&
      onA .neg 0x80 false false false 0x80 [1, 0, 0, 1, 1, 1]) = true := by decide +kernel

/-- T1: `C` is kept, whatever it was. -/
theorem test_inc_dec_byte :
    (onA .inc_A 0x7F false true true 0x80 [1, 0, 1, 1, 0, 1] &&
      onA .inc_A 0xFF false false true 0x00 [0, 1, 1, 0, 0, 1] &&
      onA .dec_A 0x80 false false true 0x7F [0, 0, 1, 1, 1, 1] &&
        onA .dec_A 0x00 false false false 0xFF [1, 0, 1, 0, 1, 0] &&
      onA .dec_A 0x10 false false true 0x0F [0, 0, 1, 0, 1, 1]) = true := by decide +kernel

/-- S10: the nine lines of the `DAA` table. -/
theorem test_daa :
    (onA .daa 0x3C false false false 0x42 [0, 0, 1, 1, 0, 0] &&
      onA .daa 0x9A false false false 0x00 [0, 1, 1, 1, 0, 1] &&
      onA .daa 0xA0 false false false 0x00 [0, 1, 0, 1, 0, 1] &&
        onA .daa 0x99 false false false 0x99 [1, 0, 0, 1, 0, 0] &&
      onA .daa 0x00 true false false 0x06 [0, 0, 0, 1, 0, 0] &&
        onA .daa 0x00 false false true 0x60 [0, 0, 0, 1, 0, 1] &&
      onA .daa 0x0F true true false 0x09 [0, 0, 0, 1, 1, 0] && onA .daa 0x66 false true true 0x06 [0, 0, 0, 1, 1, 1] &&
      onA .daa 0xFA true true true 0x94 [1, 0, 0, 0, 1, 1]) = true := by decide +kernel

/-- S1 to S3 and T2. -/
theorem test_and_or_xor :
    (onA (.and_n 0x0A) 0x0C false true true 0x08 [0, 0, 1, 0, 0, 0] &&
      onA (.and_n 0x7B) 0xC3 false false false 0x43 [0, 0, 1, 0, 0, 0] &&
      onA (.or_n 0x0A) 0x0C true false true 0x0E [0, 0, 0, 0, 0, 0] &&
        onA (.or_n 0x48) 0x12 false false false 0x5A [0, 0, 0, 1, 0, 0] &&
      onA (.xor_n 0x0A) 0x0C true true false 0x06 [0, 0, 0, 1, 0, 0] &&
        onA (.xor_n 0x5D) 0x96 false false false 0xCB [1, 0, 0, 0, 0, 0] &&
      onA .xor_A 0x5A false false true 0x00 [0, 1, 0, 1, 0, 0]) = true := by decide +kernel

/-- T2 and the examples of rules R174 to R176. -/
theorem test_cpl_ccf_scf :
    (onA .cpl 0xB4 false false true 0x4B [3, 3, 1, 3, 1, 3] && onA .ccf 0x11 true true false 0x11 [3, 3, 0, 3, 0, 1] &&
      onA .ccf 0x11 true false true 0x11 [3, 3, 0, 3, 0, 0] && onA .ccf 0x11 false false true 0x11 [3, 3, 1, 3, 0, 0] &&
      onA .scf 0x11 true true false 0x11 [3, 3, 0, 3, 0, 1]) = true := by decide +kernel

/-- S4 and the examples of rules R178, R179. -/
theorem test_bit_res_set :
    (onA (.bit_b_A 0) 0x01 false true true 0x01 [2, 0, 1, 2, 0, 1] &&
      onA (.bit_b_A 1) 0x01 false true false 0x01 [2, 1, 1, 2, 0, 0] &&
      onA (.bit_b_A 7) 0x80 false false false 0x80 [2, 0, 1, 2, 0, 0] &&
        onA (.res_b_A 3) 0xFF true true true 0xF7 [3, 3, 3, 3, 3, 3] &&
      onA (.set_b_A 7) 0x00 true true true 0x80 [3, 3, 3, 3, 3, 3] &&
        onA (.set_b_A 0) 0xFF false false true 0xFF [3, 3, 3, 3, 3, 3]) =
        true := by decide +kernel

/-- T9 and the examples of rules R350 to R353. -/
theorem test_accumulator_rotates :
    (onA .rlca 0x88 true true false 0x11 [3, 3, 0, 3, 0, 1] &&
      onA .rlca 0x00 false false true 0x00 [3, 3, 0, 3, 0, 0] &&
      onA .rla 0x76 true true true 0xED [3, 3, 0, 3, 0, 0] && onA .rla 0x80 false false false 0x00 [3, 3, 0, 3, 0, 1] &&
      onA .rrca 0x11 false false false 0x88 [3, 3, 0, 3, 0, 1] &&
        onA .rra 0xE1 false false false 0x70 [3, 3, 0, 3, 0, 1] &&
      onA .rra 0x01 false false true 0x80 [3, 3, 0, 3, 0, 1]) = true := by decide +kernel

/-- T9 and the examples of rules R354 to R361. -/
theorem test_shifts_and_rotates :
    (onA .rlc_A 0x88 true true false 0x11 [0, 0, 0, 1, 0, 1] &&
      onA .rl_A 0x8F false false false 0x1E [0, 0, 0, 1, 0, 1] &&
      onA .rl_A 0x80 false false false 0x00 [0, 1, 0, 1, 0, 1] &&
        onA .rrc_A 0x31 false false false 0x98 [1, 0, 0, 0, 0, 1] &&
      onA .rr_A 0xDD false false false 0x6E [0, 0, 0, 0, 0, 1] &&
        onA .sla_A 0xB1 false false false 0x62 [0, 0, 0, 0, 0, 1] &&
      onA .sll_A 0x80 false false false 0x01 [0, 0, 0, 0, 0, 1] &&
        onA .sll_A 0xFF false false false 0xFF [1, 0, 0, 1, 0, 1] &&
      onA .sra_A 0xB8 false false true 0xDC [1, 0, 0, 0, 0, 0] &&
        onA .sra_A 0xFF false false false 0xFF [1, 0, 0, 1, 0, 1] &&
      onA .srl_A 0x8F false false false 0x47 [0, 0, 0, 1, 0, 1] &&
        onA .srl_A 0x01 false false false 0x00 [0, 1, 0, 1, 0, 1]) =
        true := by decide +kernel

/-- Read, modify, write at one address: T1, T2, T9. -/
theorem test_memory_operands :
    (runsTo (.inc_atIXd 0xFF) (State.holding [(0x4000, 0xFF)] { base with ix := 0x4001 })
        (fun t => t.peek 0x4000 == 0x00 && t.mem == [] && flagsAre base.f t.f [0, 1, 1, 0, 0, 0] && t.ix == 0x4001) &&
      runsTo (.dec_atIYd 0x7F) (State.holding [(0x407F, 0x80)] { base with iy := 0x4000 })
        (fun t => t.peek 0x407F == 0x7F && flagsAre base.f t.f [0, 0, 1, 1, 1, 0]) &&
      runsTo (.rlc_atIYd 5) (State.holding [(0x4005, 0x80)] { base with iy := 0x4000 })
        (fun t => t.peek 0x4005 == 0x01 && flagsAre base.f t.f [0, 0, 0, 0, 0, 1]) &&
      runsTo (.res_b_atIYd 0 1) (State.holding [(0x4001, 0xFF)] { base with iy := 0x4000 })
        (fun t => t.peek 0x4001 == 0xFE && t.f == base.f) &&
      runsTo (.set_b_atIXd 4 0) { base with ix := 0x4000 } (fun t => t.peek 0x4000 == 0x10 && t.f == base.f) &&
      runsTo (.bit_b_atIXd 3 0xFE) (State.holding [(0x4000, 0x08)] { base with ix := 0x4002 })
        (fun t => flagsAre base.f t.f [2, 0, 1, 2, 0, 3] && t.mem == [(0x4000, 0x08)])) = true := by decide +kernel

/-- S13, S14. -/
theorem test_rld_rrd :
    (runsTo .rld (State.holding [(0x5000, 0xCD)] { base with a := 0xAB, h := 0x50 })
        (fun t => t.a == 0xAC && t.peek 0x5000 == 0xDB && flagsAre base.f t.f [1, 0, 0, 1, 0, 3]) &&
      runsTo .rrd (State.holding [(0x5000, 0xCD)] { base with a := 0xAB, h := 0x50 })
        (fun t => t.a == 0xAD && t.peek 0x5000 == 0xBC && flagsAre base.f t.f [1, 0, 0, 0, 0, 3])) = true := by
  decide +kernel

/-- T1, the 16-bit lines. -/
theorem test_word_arithmetic :
    (runsTo .inc_SP { base with sp := 0xFFFF } (fun t => t.sp == 0x0000 && t.f == base.f) &&
      runsTo .dec_IX { base with ix := 0x0000 } (fun t => t.ix == 0xFFFF && t.f == base.f) &&
      runsTo .add_HL_HL { base with h := 0x80, f := { Flags.allSet with c := false, h := false } }
        (fun t => t.hl == 0x0000 && flagsAre Flags.allSet t.f [1, 1, 2, 1, 0, 1]) &&
      runsTo .add_IX_SP { base with ix := 0xF000, sp := 0x1234 }
        (fun t => t.ix == 0x0234 && flagsAre base.f t.f [3, 3, 2, 3, 0, 1]) &&
      runsTo .adc_HL_DE { base with h := 0x7F, l := 0xFF, f := { Flags.allClear with c := true } }
        (fun t => t.hl == 0x8000 && flagsAre base.f t.f [1, 0, 2, 1, 0, 0]) &&
      runsTo .sbc_HL_HL { base with h := 0x12, l := 0x34, f := { Flags.allClear with c := true } }
        (fun t => t.hl == 0xFFFF && flagsAre base.f t.f [1, 0, 2, 0, 1, 1]) &&
      runsTo .sbc_HL_BC { base with h := 0x80, c := 0x01 }
        (fun t => t.hl == 0x7FFF && flagsAre base.f t.f [0, 0, 2, 1, 1, 0])) = true := by decide +kernel

/-- T8. -/
theorem test_byte_loads :
    (runsTo .ld_IXH_IXL { base with ix := 0x12AB } (fun t => t.ix == 0xABAB && t.hl == 0x0000) &&
      runsTo (.ld_H_atIXd 1) (State.holding [(0x4001, 0x99)] { base with ix := 0x4000, h := 0x11, l := 0x11 })
        (fun t => t.hl == 0x9911 && t.ix == 0x4000) &&
      runsTo (.ld_atIYd_L 0x80) { base with iy := 0x4080, l := 0xEE } (fun t => t.peek 0x4000 == 0xEE) &&
      runsTo .ld_L_atHL (State.holding [(0x75A1, 0x58)] { base with h := 0x75, l := 0xA1 }) (fun t => t.hl == 0x7558) &&
      runsTo (.ld_IYL_n 0x77) { base with iy := 0x1200 } (fun t => t.iy == 0x1277) &&
      runsTo .ld_atDE_A { base with d := 0x40, a := 0xC5 } (fun t => t.peek 0x4000 == 0xC5 &&
        t.f == base.f)) = true := by
  decide +kernel

/-- T8: words, at the top of memory. -/
theorem test_word_loads :
    (runsTo (.ld_HL_atNn 0xFFFF) (State.holding [(0xFFFF, 0x34), (0x0000, 0x12)] base)
        (fun t => t.hl == 0x1234 && t.pc == 0x0103) &&
      runsTo (.ld_HL_atNn_ed 0x9000) (State.holding [(0x9000, 0xCD), (0x9001, 0xAB)] base)
        (fun t => t.hl == 0xABCD && t.pc == 0x0104) &&
      runsTo (.ld_atNn_DE 0xFFFF) { base with d := 0xA1, e := 0xB2 }
        (fun t => t.peek 0xFFFF == 0xB2 && t.peek 0x0000 == 0xA1) &&
      runsTo .ld_SP_IX { base with ix := 0x8000 } (fun t => t.sp == 0x8000)) = true := by decide +kernel

/-- T8: `I`, `R` and the interrupt enable. -/
theorem test_interrupt_page_and_refresh_loads :
    (runsTo .ld_A_I { base with a := 0x55, f := { Flags.allSet with s := false, z := false } }
        (fun t => t.a == 0x00 && flagsAre base.f t.f [0, 1, 0, 0, 0, 1]) &&
      runsTo .ld_A_I { base with i := 0x80, iff2 := true }
        (fun t => t.a == 0x80 && flagsAre base.f t.f [1, 0, 0, 1, 0, 0]) &&
      runsTo .ld_R_A { base with a := 0x80 } (fun t => t.r == 0x80 && t.f == base.f)) = true := by decide +kernel

/-- T3: jumps. -/
theorem test_jumps :
    (runsTo (.jr_e 0x80) { base with pc := 0x0200 } (fun t => t.pc == 0x0182) &&
      runsTo (.jr_e 0x7F) { base with pc := 0x0200 } (fun t => t.pc == 0x0281) &&
      runsTo (.jr_e 0x00) { base with pc := 0xFFFE } (fun t => t.pc == 0x0000) &&
      runsTo (.jr_NC_e 0x10) { base with f := { Flags.allClear with c := true } } (fun t => t.pc == 0x0102) &&
      runsTo (.djnz_e 0x05) { base with b := 0x00 } (fun t => t.b == 0xFF && t.pc == 0x0107 && t.f == base.f) &&
      runsTo (.djnz_e 0x05) { base with b := 0x01 } (fun t => t.b == 0x00 && t.pc == 0x0102) &&
      runsTo .jp_IX { base with ix := 0xBEEF } (fun t => t.pc == 0xBEEF) &&
      runsTo (.jp_M_nn 0xABCD) { base with f := { Flags.allClear with s := true } } (fun t => t.pc == 0xABCD) &&
      runsTo (.jp_PO_nn 0xABCD) { base with f := { Flags.allClear with pv := true } } (fun t => t.pc == 0x0103)) =
        true := by decide +kernel

/-- T3: calls, restarts and returns. -/
theorem test_calls_and_returns :
    (runsTo (.call_nn 0x1234) { base with pc := 0x8000, sp := 0x0001 }
        (fun t => t.peek 0x0000 == 0x80 && t.peek 0xFFFF == 0x03 && t.sp == 0xFFFF && t.pc == 0x1234) &&
      runsTo (.call_M_nn 0x3000) base (fun t => t.pc == 0x0103 && t.sp == 0x9000 && t.mem == []) &&
      runsTo .rst_28 { base with pc := 0x1234, sp := 0x8000 }
        (fun t => t.peek 0x7FFF == 0x12 && t.peek 0x7FFE == 0x35 && t.sp == 0x7FFE && t.pc == 0x0028) &&
      runsTo .ret (State.holding [(0xFFFF, 0x78), (0x0000, 0x56)] { base with sp := 0xFFFF })
        (fun t => t.pc == 0x5678 && t.sp == 0x0001) &&
      runsTo .ret_P { base with f := { Flags.allClear with s := true } } (fun t => t.pc == 0x0101 && t.sp == 0x9000) &&
      runsTo .retn (State.holding [(0x9000, 0x03), (0x9001, 0x10)] { base with iff2 := true })
        (fun t => t.pc == 0x1003 && t.sp == 0x9002 && t.iff1 && t.iff2)) = true := by decide +kernel

/-- T4 and the examples of rules R232, R236, R238. -/
theorem test_block_moves_and_compares :
    (runsTo .ldd (State.holding [(0x0000, 0x77)] { base with d := 0xFF, e := 0xFF, c := 0x02 })
        (fun t => t.peek 0xFFFF == 0x77 && t.hl == 0xFFFF && t.de == 0xFFFE && t.bc == 0x0001 &&
          flagsAre base.f t.f [3, 3, 0, 1, 0, 3] && t.pc == 0x0102) &&
      runsTo .ldir (State.holding [(0x4000, 0xAA)] { base with h := 0x40, d := 0x40, e := 0x01, c := 0x03 })
        (fun t => t.peek 0x4001 == 0xAA && t.bc == 0x0002 && t.pc == 0x0100 && t.f.pv) &&
      runsTo .ldir (State.holding [(0x4000, 0xAA)] { base with h := 0x40, d := 0x40, e := 0x01, c := 0x01 })
        (fun t => t.bc == 0x0000 && t.pc == 0x0102 && !t.f.pv) &&
      runsTo .cpi (State.holding [(0x4000, 0x01)]
          { base with a := 0x10, h := 0x40, f := { Flags.allClear with c := true } })
        (fun t => t.hl == 0x4001 && t.bc == 0xFFFF && flagsAre base.f t.f [0, 0, 1, 1, 1, 1]) &&
      runsTo .cpir (State.holding [(0x4000, 0x7C)] { base with a := 0x7C, h := 0x40, c := 0x01 })
        (fun t => t.hl == 0x4001 && t.bc == 0x0000 && t.f.z && !t.f.pv && t.pc == 0x0102) &&
      runsTo .cpdr { base with a := 0x7C, h := 0x40, c := 0x02 }
        (fun t => t.hl == 0x3FFF && t.bc == 0x0001 && !t.f.z && t.f.pv && t.pc == 0x0100)) = true := by decide +kernel

/-- T7: the port, its high byte, and what the platform is handed; a port's answer is unknown, so no test names it. -/
theorem test_input_output :
    (runsTo (.out_atN_A 0x01) { base with a := 0x23 } (fun t => t.history == [.ioWrite 0x2301 0x23] && t.f == base.f) &&
      runsTo .out_atC_D { base with b := 0x10, c := 0x01, d := 0x5A } (fun t => t.history == [.ioWrite 0x1001 0x5A]) &&
      runsTo .out_atC_0 { base with b := 0x10, c := 0x01 } (fun t => t.history == [.ioWrite 0x1001 0x00]) &&
      runsTo .outi (State.holding [(0x4000, 0x99)] { base with c := 0x10, h := 0x40 })
        (fun t => t.history == [.ioWrite 0xFF10 0x99] && t.b == 0xFF && t.hl == 0x4001 &&
          flagsAre base.f t.f [2, 0, 2, 2, 0, 3]) &&
      runsTo .otdr (State.holding [(0x1000, 0x51)] { base with b := 0x02, c := 0x07, h := 0x10 })
        (fun t => t.history == [.ioWrite 0x0107 0x51] && t.hl == 0x0FFF && t.b == 0x01 && t.pc == 0x0100 && t.f.n) &&
      runsTo .ind { base with b := 0x01, c := 0x10, f := { Flags.allClear with c := true } }
        (fun t => t.hl == 0xFFFF && t.b == 0x00 && flagsAre base.f t.f [2, 1, 2, 2, 1, 1] && t.pc == 0x0102) &&
      runsTo .inir { base with b := 0x03, c := 0x07, h := 0x10 }
        (fun t => t.hl == 0x1001 && t.b == 0x02 && t.pc == 0x0100 && !t.f.n && t.history.length == 1)) = true := by
  decide +kernel

/-- The byte that a port answers is the byte loaded, from the port of `BC` before the load (rule R281). -/
theorem test_input_loads_the_answer (s : State) :
    exec .in_A_atC s =
      let v := Config.ioByte s.bc s.history
      .next (State.advance 2 (State.writeFlags (szpFlags v false) { s with a := v, history := .ioRead s.bc v :: s.history })) :=
  rfl

/-- Examples of rules R260 to R264, R268, R269, and T6. -/
theorem test_exchange_and_stack :
    (runsTo .ex_DE_HL { base with d := 0x28, e := 0x22, h := 0x49, l := 0x9A } (fun t => t.de == 0x499A &&
      t.hl == 0x2822) &&
      runsTo .ex_AF_AFshadow { base with a := 0x99, aShadow := 0x59, fShadow := Flags.ofByte 0x44 }
        (fun t => t.af == 0x5944 && t.aShadow == 0x99 && t.fShadow == base.f) &&
      runsTo .exx { base with b := 0x44, c := 0x5A, bShadow := 0x09, cShadow := 0x88 }
        (fun t => t.bc == 0x0988 && t.bShadow == 0x44 && t.cShadow == 0x5A && t.a == 0) &&
      runsTo .ex_atSP_IY (State.holding [(0xFFFF, 0x44), (0x0000, 0x33)] { base with iy := 0x1122, sp := 0xFFFF })
        (fun t => t.iy == 0x3344 && t.peek 0xFFFF == 0x22 && t.peek 0x0000 == 0x11 && t.sp == 0xFFFF) &&
      runsTo .push_AF { base with a := 0x22, f := Flags.ofByte 0x33, sp := 0x1007 }
        (fun t => t.peek 0x1006 == 0x22 && t.peek 0x1005 == 0x33 && t.sp == 0x1005) &&
      runsTo .pop_AF (State.holding [(0x9000, 0x28), (0x9001, 0x12)] base)
        (fun t => t.a == 0x12 && t.f == Flags.ofByte 0x28 && t.sp == 0x9002)) = true := by decide +kernel

/-- Examples of rules R250 to R254. -/
theorem test_system_control :
    (runsTo .nop { base with pc := 0xFFFF } (fun t => t.pc == 0x0000) &&
      runsTo .di { base with iff1 := true, iff2 := true } (fun t => !t.iff1 && !t.iff2) &&
      runsTo .ei base (fun t => t.iff1 && t.iff2 && t.eiShadow) &&
      runsTo .halt base (fun t => t.halted && t.pc == 0x0101) && runsTo .im_2 base (fun t => t.im == .mode2 &&
        !t.iff1)) =
        true := by decide +kernel

/-! ### Steps: T5 and T3 -/

/-- A request line that is active, with this byte on the bus. -/
def intPin (data : Byte) : Pins := ⟨false, false, true, data⟩

/-- An edge on the `NMI` input, the maskable line active too. -/
def nmiPin : Pins := ⟨false, true, true, 0xFF⟩

/-- A reset request, with everything else requested too. -/
def resetPin : Pins := ⟨true, true, true, 0xFF⟩

/-- Interrupts enabled in a mode, a request at the coming boundary. -/
def enabled (mode : IntMode) (data : Byte) : State :=
  { base with im := mode, iff1 := true, iff2 := true, i := 0x80, pins := [intPin data] }

theorem test_operand_across_the_top :
    stepsTo (State.holding [(0xFFFF, 0x3E), (0x0000, 0x77)] { base with pc := 0xFFFF })
      (fun t => t.a == 0x77 && t.pc == 0x0001 && t.r == 0x01 && t.tStates == 7) = true := by decide +kernel

theorem test_refresh_counts_fetches :
    (stepsTo (State.holding [(0x0100, 0xED), (0x0101, 0x5F)] { base with r := 0x7E })
        (fun t => t.a == 0x00 && t.r == 0x00 && t.f.z && t.tStates == 9) &&
      stepsTo (State.holding [(0x0100, 0xED), (0x0101, 0x5F)] { base with r := 0xFE })
        (fun t => t.a == 0x80 && t.r == 0x80 && t.f.s) &&
      stepsTo (State.holding [(0x0100, 0xDD), (0x0101, 0xCB), (0x0102, 0x00), (0x0103, 0x46)] base)
        (fun t => t.r == 0x02 && t.pc == 0x0104 && t.tStates == 20)) = true := by decide +kernel

theorem test_mode_1_interrupt :
    stepsTo (enabled .mode1 0x00)
      (fun t => t.pc == 0x0038 && t.sp == 0x8FFE && t.peek 0x8FFF == 0x01 && t.peek 0x8FFE == 0x00 && !t.iff1 &&
        !t.iff2 &&
        t.r == 0x01 && t.tStates == 13) = true := by decide +kernel

theorem test_mode_2_interrupt_with_an_odd_vector :
    stepsTo (State.holding [(0x80FF, 0x21), (0x8100, 0x43)] (enabled .mode2 0xFF))
      (fun t => t.pc == 0x4321 && t.sp == 0x8FFE && t.peek 0x8FFF == 0x01 && !t.iff1 && t.tStates == 19) = true := by
  decide +kernel

theorem test_mode_0_interrupt :
    (stepsTo (enabled .mode0 0xEF) (fun t => t.pc == 0x0028 && t.sp == 0x8FFE && !t.iff1 && !t.iff2) &&
      stepRefused (enabled .mode0 0x00) (.modeZeroInstruction 0x00)) = true := by decide +kernel

theorem test_nmi_wins_over_the_maskable_interrupt :
    stepsTo { enabled .mode1 0x00 with nmiPending := true }
      (fun t => t.pc == 0x0066 && t.peek 0x8FFF == 0x01 && !t.iff1 && t.iff2 && !t.nmiPending &&
        t.tStates == 11) = true := by
  decide +kernel

theorem test_nmi_ends_a_halt :
    stepsTo { base with halted := true, pc := 0x0102, pins := [nmiPin] }
      (fun t => !t.halted && t.pc == 0x0066 && t.peek 0x8FFE == 0x02) = true := by decide +kernel

theorem test_no_interrupt_right_after_ei :
    (stepsTo { enabled .mode1 0x00 with eiShadow := true } (fun t => t.pc == 0x0101 && !t.eiShadow && t.iff1) &&
      stepsTo (State.holding [(0x0100, 0xFB)] { base with pins := [intPin 0] })
        (fun t => t.pc == 0x0101 && t.eiShadow && t.iff1)) = true := by decide +kernel

theorem test_masked_interrupt_waits :
    stepsTo { base with pins := [intPin 0] } (fun t => t.pc == 0x0101 && t.sp == 0x9000 && t.mem == []) = true := by
  decide +kernel

theorem test_halted_step_idles :
    stepsTo { base with halted := true, r := 0xFF, pins := [intPin 0] }
      (fun t => t == { base with halted := true, r := 0x80, tStates := 4 }) = true := by decide +kernel

theorem test_reset_from_halt :
    stepsTo { base with halted := true, i := 0x55, r := 0x33, im := .mode2, iff1 := true, iff2 := true, a := 0x12,
                        nmiPending := true, pins := [resetPin] }
      (fun t => t == { base with a := 0x12, pc := 0x0000 }) = true := by decide +kernel

theorem test_unassigned_bytes_are_refused_by_the_step :
    stepRefused (State.holding [(0x0100, 0xDD), (0x0101, 0xEB)] base)
      (.unassignedEncoding .unassignedIndex 0x0100 [0xDD, 0xEB]) = true := by decide +kernel

theorem test_a_repeating_instruction_is_interrupted_between_iterations :
    stepsTo (State.holding [(0x0100, 0xED), (0x0101, 0xB0)] { base with c := 0x02, h := 0x40, d := 0x50 })
      (fun t => t.pc == 0x0100 && t.bc == 0x0001 && t.r == 0x02 && t.tStates == 21) = true := by decide +kernel

/-- A table word runs as the first instruction after reset, past whatever stood in the way. -/
theorem test_withFetchWord :
    (stepsTo (State.reset.withFetchWord 16 0x47ED) (fun t => t.i == 0xFF && t.pc == 0x0002) &&
      stepsTo ({ base with halted := true, nmiPending := true, pins := [resetPin],
                           memMap := [⟨0, 65536, .device⟩] }.withFetchWord 8 0x3C)
        (fun t => t.a == 0x01 && t.pc == 0x0101)) = true := by decide +kernel

/-- ROM keeps its byte, nothing is behind an unbacked address, a device is handed the byte (rules R62, R63). -/
theorem test_platform_memory :
    (runsTo (.ld_atNn_A 0x0000) { base with a := 0x55, memMap := [⟨0, 1, .rom⟩] } (fun t => t.mem == [] &&
      t.history == []) &&
      runsTo (.ld_atNn_A 0xFFFF) { base with a := 0x55, memMap := [⟨0xFFFF, 1, .unbacked⟩] }
        (fun t => t.mem == [] && t.history == []) &&
      runsTo (.ld_atNn_A 0x8000) { base with a := 0x55, memMap := [⟨0x8000, 0x100, .device⟩] }
        (fun t => t.mem == [] && t.history == [.memWrite 0x8000 0x55]) &&
      runsTo (.ld_A_atNn 0x8000) { base with memMap := [⟨0x8000, 0x100, .device⟩] } (fun t => t.history.length == 1)) =
        true := by decide +kernel

/-! ### Hypotheses that can be met

For each statement with hypotheses (and each clause of one that has several), a concrete state and operands that meet
them together. -/

theorem next_of_stepsTo {s : State} {check : State → Bool} (h : stepsTo s check = true) :
    ∃ t, step s = .next t ∧ check t = true := by
  unfold stepsTo at h
  split at h
  · exact ⟨_, ‹_›, h⟩
  · cases h
  · cases h

/-- Memory that is not empty, in its canonical form. -/
def stored : State := State.holding [(0x0000, 0x12), (0x4000, 0xAA), (0xFFFF, 0x34)] base

/-- The hypothesis of every statement about stores, and of `DecimalDigitRotates`, `BlockMoves`, `BlockInputs`. -/
theorem witness_memory_is_canonical : Memory.wf stored.mem = true ∧ stored.mem ≠ [] := by decide +kernel

/-- Every list of forms has the members the spec lists: fifteen operands of `ADD A,s`, ten of `RLC m8`, and so on. -/
theorem witness_form_lists :
    registerLoadForms.length = 97 ∧ (immediateLoadForms 0xFF).length = 11 ∧ (byteLoadForms 0x80 0xFFFF).length = 24 ∧
      (byteStoreForms 0xFF 0x80 0xFFFF).length = 27 ∧ (wordLoadForms 0xFFFF).length = 9 ∧
      (wordFromMemoryForms 0xFFFF).length = 7 ∧ (wordToMemoryForms 0xFFFF).length = 7 ∧
      ([addForms, adcForms, subForms, sbcForms, cpForms, andForms, orForms, xorForms].all
        fun f => (f 0xFF 0x80).length == 15) = true ∧
      (incForms 0x80).length = 14 ∧ (decForms 0x80).length = 14 ∧ incWordForms.length = 6 ∧ decWordForms.length = 6 ∧
      addWordForms.length = 12 ∧ adcWordForms.length = 4 ∧ sbcWordForms.length = 4 ∧
      ([bitForms, resForms, setForms].all fun f => (f 7 0x80).length == 10 && (f 0 0x7F).length == 10) = true ∧
      ([rlcForms, rlForms, rrcForms, rrForms, slaForms, sllForms, sraForms, srlForms].all
        fun f => (f 0x80).length == 10) = true ∧
      (jumpIfForms 0xFFFF).length = 8 ∧ jumpRegisterForms.length = 3 ∧ (jumpRelativeIfForms 0x80).length = 4 ∧
      (callIfForms 0xFFFF).length = 8 ∧ returnIfForms.length = 8 ∧ restartForms.length = 8 ∧
      exchangeTopForms.length = 3 ∧ pushForms.length = 6 ∧ popForms.length = 6 ∧ inputForms.length = 7 ∧
      outputForms.length = 8 ∧ modeForms.length = 3 := by decide +kernel

/-- `DecodingAnEncodingGivesTheInstruction`, `LeadingBytesDecideTheLength`: instructions of 1, 2, 3 and 4 bytes, bit
indices 0 and 7. -/
theorem witness_wellFormed_of_each_length :
    Instr.wellFormed .halt = true ∧ encode .halt ++ [0x00] = 0x76 :: 0x00 :: [] ∧
      Instr.wellFormed (.bit_b_B 0) = true ∧ encode (.bit_b_B 0) ++ [] = 0xCB :: 0x40 :: [] ∧
      Instr.wellFormed (.jp_nn 0xFFFF) = true ∧ encode (.jp_nn 0xFFFF) ++ [] = 0xC3 :: 0xFF :: [0xFF] ∧
      Instr.wellFormed (.set_b_atIYd 7 0x80) = true ∧
      encode (.set_b_atIYd 7 0x80) ++ [] = 0xFD :: 0xCB :: [0x80, 0xFE] := by decide +kernel

/-- `DecodedBytesAreTheEncoding`, `MainAndBitPagesHaveNoHole`: bytes that decode, and opcodes that are no prefix. -/
theorem witness_decoded_bytes :
    isRefused [0xDD, 0xCB, 0x80, 0xFE, 0x00] .truncated = false ∧
      readsAs [0xDD, 0xCB, 0x80, 0xFE] (.set_b_atIXd 7 0x80) = true ∧
      ((0x00 : Byte) ≠ 0xCB ∧ (0x00 : Byte) ≠ 0xED ∧ (0x00 : Byte) ≠ 0xDD ∧ (0x00 : Byte) ≠ 0xFD) ∧
      (0xFF : Byte) ≠ 0xCB ∧ (0xFF : Byte) ≠ 0xED ∧ (0xFF : Byte) ≠ 0xDD ∧ (0xFF : Byte) ≠ 0xFD := by decide +kernel

/-- A state that runs the bytes held at its `PC`, the last byte of memory, with a request that is masked. -/
def topOfMemory (cells : List (Word × Byte)) : State :=
  State.holding cells { base with pc := 0xFFFF, pins := [intPin 0] }

theorem runs_topOfMemory (cells : List (Word × Byte)) : (topOfMemory cells).RunsNext :=
  ⟨rfl, rfl, rfl, .inr (.inl rfl), rfl⟩

theorem fetch_topOfMemory (cells : List (Word × Byte)) (n : Nat) : (topOfMemory cells).Fetchable 0xFFFF n :=
  fun _ _ => .inl rfl

/-- `UnassignedBytesAreRefused`, its three clauses, across the wrap from $FFFF to $0000. -/
theorem witness_unassigned_bytes :
    ((0x00 : Byte) ∉ assignedED ∧ (topOfMemory [(0xFFFF, 0xED)]).Holds 0xFFFF [0xED, 0x00]) ∧
      ((0x76 : Byte) ∉ assignedIndex ∧ (0x76 : Byte) ≠ 0xCB ∧
        (topOfMemory [(0xFFFF, 0xDD), (0x0000, 0x76)]).Holds 0xFFFF [0xDD, 0x76]) ∧
      (0xC7 : Byte).toNat % 8 ≠ 6 ∧
      (topOfMemory [(0xFFFF, 0xFD), (0x0000, 0xCB), (0x0001, 0x80), (0x0002, 0xC7)]).Holds 0xFFFF [0xFD, 0xCB, 0x80, 0xC7] := by
  unfold State.Holds
  decide +kernel

/-- `AStepRunsTheDecodedInstruction`, `AStepRunsTheInstructionInMemory`: a four-byte instruction across the wrap. -/
theorem witness_a_step_runs_the_instruction :
    (topOfMemory [(0xFFFF, 0xDD), (0x0000, 0x36), (0x0001, 0xFE), (0x0002, 0x12)]).Holds 0xFFFF
        (encode (.ld_atIXd_n 0xFE 0x12)) ∧
      stepsTo (topOfMemory [(0xFFFF, 0xDD), (0x0000, 0x36), (0x0001, 0xFE), (0x0002, 0x12)])
        (fun t => t.peek 0xFFFE == 0x12 && t.pc == 0x0003) = true := by
  unfold State.Holds
  decide +kernel

/-- The same two, for one, two and three bytes. -/
theorem witness_a_step_runs_shorter_instructions :
    (topOfMemory [(0xFFFF, 0x3C)]).Holds 0xFFFF (encode .inc_A) ∧
      (topOfMemory [(0xFFFF, 0xCB), (0x0000, 0x47)]).Holds 0xFFFF (encode (.bit_b_A 0)) ∧
      (topOfMemory [(0xFFFF, 0x21), (0x0001, 0x80)]).Holds 0xFFFF (encode (.ld_HL_nn 0x8000)) := by
  unfold State.Holds
  decide +kernel

/-- `MemoryReadsWhatWasWritten`, its clauses: each kind of memory at an edge of its block, and words and a stack that
wrap. -/
theorem witness_kinds_of_memory :
    let s : State := { stored with sp := 0x0001, memMap := [⟨0x4000, 0x1000, .rom⟩, ⟨0x5000, 1, .unbacked⟩, ⟨0x6000, 2, .device⟩] }
    Memory.wf s.mem = true ∧ s.kindAt 0x3FFF = .ram ∧ s.kindAt 0x4000 = .rom ∧ s.kindAt 0x4FFF = .rom ∧
      s.kindAt 0x5000 = .unbacked ∧ s.kindAt 0x5001 = .ram ∧ s.kindAt 0x6001 = .device ∧ s.kindAt 0x6002 = .ram ∧
      (s.kindAt 0xFFFF = .ram ∧ s.kindAt (0xFFFF + 1) = .ram) ∧ s.kindAt (s.sp - 2) = .ram ∧
        s.kindAt (s.sp - 1) = .ram := by
  decide +kernel

/-- `BitTestSetsZeroFlag`, `BitResetAndSetChangeOneBit`: the bit indices at both ends, with a member of their lists. -/
theorem witness_bit_forms :
    (7 < 8 ∧ ((bitForms 7 0x80).map (·.instr)).contains (.bit_b_atIYd 7 0x80) = true) ∧
      0 < 8 ∧ ((resForms 0 0x7F).map (·.instr)).contains (.res_b_B 0) = true ∧
      ((setForms 0 0x7F).map (·.instr)).contains (.set_b_atHL 0) = true := by decide +kernel

/-- `ResetComesFirst`. -/
theorem witness_reset_requested : ({ base with pins := [resetPin] } : State).nextPins.reset = true := rfl

/-- `NonMaskableInterruptIsTaken`: a pending request, and an edge at this boundary. -/
theorem witness_nmi_requested :
    (Memory.wf stored.mem = true ∧ ({ stored with nmiPending := true } : State).nextPins.reset = false ∧
        ({ stored with nmiPending := true } : State).nmiPending = true) ∧
      ({ stored with pins := [nmiPin] } : State).nextPins.reset = false ∧
      ({ stored with pins := [nmiPin] } : State).nextPins.nmiEdge = true := by decide +kernel

theorem due_enabled (mode : IntMode) (data : Byte) : (enabled mode data).MaskableDue := ⟨rfl, rfl, rfl, rfl, rfl, rfl⟩

/-- `MaskableInterruptIsTaken`, its four clauses: modes 1 and 2, mode 0 with the first and the last `RST`, and with a byte
that is none. -/
theorem witness_maskable_interrupt :
    Memory.wf (enabled .mode1 0).mem = true ∧ (enabled .mode1 0).im = .mode1 ∧ (enabled .mode2 0xFF).im = .mode2 ∧
      ((enabled .mode0 0xC7).im = .mode0 ∧ (enabled .mode0 0xC7).nextPins.intData = BitVec.ofNat 8 (0xC7 + 8 * 0)) ∧
      (enabled .mode0 0xFF).nextPins.intData = BitVec.ofNat 8 (0xC7 + 8 * 7) ∧
      ∀ y : Nat, y < 8 → (enabled .mode0 0xC8).nextPins.intData ≠ BitVec.ofNat 8 (0xC7 + 8 * y) := by decide +kernel

/-- `EnableTakesEffectOneInstructionLater`, the boundary after `EI`: with a request held. -/
theorem witness_ei_shadow :
    ({ enabled .mode1 0 with eiShadow := true } : State).pins = intPin 0 :: [] ∧
      ({ enabled .mode1 0 with eiShadow := true } : State).eiShadow = true := ⟨rfl, rfl⟩

/-- The same, the step that leaves the shadow. -/
theorem witness_a_step_leaves_the_shadow : ∃ t, step (State.holding [(0x0100, 0xFB)] base) = .next t ∧
  t.eiShadow = true :=
  next_of_stepsTo (check := fun t => t.eiShadow) (by decide +kernel)

/-- `HaltedStepIdles`: no request; a request with interrupts disabled; a request right after `EI`. -/
theorem witness_halted :
    (({ base with halted := true, iff1 := true, iff2 := true } : State).nextPins.intLine = false) ∧
      (({ base with halted := true, pins := [intPin 0] } : State).iff1 = false ∧
        ({ base with halted := true, pins := [intPin 0] } : State).nextPins = intPin 0) ∧
      ({ enabled .mode1 0 with halted := true, eiShadow := true } : State).eiShadow = true ∧
      (enabled .mode1 0).nextPins.reset = false ∧ (enabled .mode1 0).nextPins.nmiEdge = false := by decide +kernel

/-- `TerminalStateNeverEnds`: the maskable line may be held. -/
theorem witness_terminal : ({ base with halted := true, pins := [intPin 0, intPin 0xFF] } : State).Terminal :=
  ⟨rfl, rfl, rfl, by unfold quietSchedule; decide⟩

/-- `EveryStepKeepsTheInvariant`: a good state that is not the reset state, and a step from it. -/
theorem witness_a_step_from_a_good_state :
    ({ stored with iff1 := true, iff2 := true, eiShadow := true } : State).Inv ∧
      ∃ t, step { stored with iff1 := true, iff2 := true, eiShadow := true } = .next t ∧ (t.pc == 0x0101) = true :=
  ⟨⟨by decide +kernel, by decide, by decide⟩, next_of_stepsTo (check := fun t => t.pc == 0x0101) (by decide +kernel)⟩

/-- `NoStepWritesReadOnlyMemory`: a step that writes to ROM. -/
theorem witness_a_step_writes_to_rom :
    let s : State := { State.holding [(0x0100, 0x32)] base with a := 0x55, memMap := [⟨0, 1, .rom⟩] }
    s.kindAt 0x0000 ≠ .ram ∧ ∃ t, step s = .next t ∧ (t.peek 0x0000 == 0x00) = true :=
  ⟨by decide +kernel, next_of_stepsTo (check := fun t => t.peek 0x0000 == 0x00) (by decide +kernel)⟩

/-- `OnlyNamedInstructionsReachHiddenState`: steps that do reach it. -/
theorem witness_steps_reach_hidden_state :
    (∃ t, step (State.holding [(0x0100, 0xD9)] { base with bShadow := 0x44 }) = .next t ∧ (t.bShadow == 0x00) = true) ∧
      ∃ t, step (State.holding [(0x0100, 0xED), (0x0101, 0x5E)] base) = .next t ∧ (t.im == .mode2) = true :=
  ⟨next_of_stepsTo (check := fun t => t.bShadow == 0x00) (by decide +kernel),
    next_of_stepsTo (check := fun t => t.im == .mode2) (by decide +kernel)⟩

/-- `State.RunsOneOf` asks that the boundary runs the instruction: an NMI edge or a halt at `EXX` does not. -/
theorem test_a_boundary_that_runs_nothing :
    ¬ ({ State.holding [(0x0100, 0xD9)] base with pins := [nmiPin] } : State).RunsOneOf [.exx] ∧
      ¬ ({ State.holding [(0x0100, 0xD9)] base with halted := true } : State).RunsOneOf [.exx] :=
  ⟨fun h => absurd h.1.noEdge (by decide), fun h => absurd h.1.running (by decide)⟩

/-- `LDIR` at $0100, about to copy `count` bytes from $4001 to `target`. -/
def copying (count : Byte) (target : Word) : State :=
  State.holding [(0x0100, 0xED), (0x0101, 0xB0), (0x4001, 0x88), (0x4002, 0x36)]
    { base with h := 0x40, l := 0x01, d := hiByte target, e := loByte target, c := count }

/-- A copy of the first two bytes below them, onto the second byte read: rule R465's overlap that does no harm. -/
theorem test_overlapping_copy_downwards :
    (match Host.Core.run Sys2Proof.core 2 (copying 2 0x4000) with
      | .next (t : State) => t.peek 0x4000 == 0x88 && t.peek 0x4001 == 0x36 && t.bc == 0x0000 && t.pc == 0x0102
      | .fault _ => false
      | .refused _ => false) = true := by decide +kernel

/-- `RepeatedMoveCopiesTheBlock`, for one byte, and for two that the blocks share one byte of. -/
theorem witness_block_to_copy :
    ((copying 1 0x5000).AllRam ∧ (copying 1 0x5000).pins = [] ∧ (copying 1 0x5000).RunsNext) ∧
      ((copying 2 0x4000).AllRam ∧ (copying 2 0x4000).pins = [] ∧ (copying 2 0x4000).RunsNext) ∧
      (Memory.wf (copying 2 0x4000).mem = true ∧ (copying 2 0x4000).Holds 0x0100 [0xED, 0xB0] ∧
        1 = (copying 1 0x5000).bc.toNat ∧ 2 = (copying 2 0x4000).bc.toNat ∧
        (∀ k < 2, (copying 2 0x4000).de + BitVec.ofNat 16 k ≠ 0x0100 ∧
          (copying 2 0x4000).de + BitVec.ofNat 16 k ≠ 0x0100 + 1) ∧
        ∀ j < 2, ∀ k < j, (copying 2 0x4000).hl + BitVec.ofNat 16 j ≠ (copying 2 0x4000).de + BitVec.ofNat 16 k) :=
  ⟨⟨rfl, rfl, rfl, rfl, rfl, .inl rfl, rfl⟩, ⟨rfl, rfl, rfl, rfl, rfl, .inl rfl, rfl⟩,
    by unfold State.Holds; decide +kernel⟩

end Sys2Proof.Tests
end

section
/-! SUPPORT. The length of an instruction: what decodes has the length that its two leading bytes say (30_encoding.md
rules R91 to R93), so that a fetch, which reads as many bytes as those say, reads exactly an instruction's encoding. -/

namespace Sys2Proof

/-- Decoding the encoding of a well-formed instruction gives it back: the round trips of the constructors, collected. -/
theorem decode_encode (i : Instr) : Laws.RoundTrip.Statement i :=
  match i with
  | .nop => Laws.RoundTrip.nop
  | .ex_AF_AFshadow => Laws.RoundTrip.ex_AF_AFshadow
  | .djnz_e e => Laws.RoundTrip.djnz_e e
  | .jr_e e => Laws.RoundTrip.jr_e e
  | .jr_NZ_e e => Laws.RoundTrip.jr_NZ_e e
  | .jr_Z_e e => Laws.RoundTrip.jr_Z_e e
  | .jr_NC_e e => Laws.RoundTrip.jr_NC_e e
  | .jr_C_e e => Laws.RoundTrip.jr_C_e e
  | .ld_BC_nn nn => Laws.RoundTrip.ld_BC_nn nn
  | .add_HL_BC => Laws.RoundTrip.add_HL_BC
  | .inc_BC => Laws.RoundTrip.inc_BC
  | .dec_BC => Laws.RoundTrip.dec_BC
  | .ld_DE_nn nn => Laws.RoundTrip.ld_DE_nn nn
  | .add_HL_DE => Laws.RoundTrip.add_HL_DE
  | .inc_DE => Laws.RoundTrip.inc_DE
  | .dec_DE => Laws.RoundTrip.dec_DE
  | .ld_HL_nn nn => Laws.RoundTrip.ld_HL_nn nn
  | .add_HL_HL => Laws.RoundTrip.add_HL_HL
  | .inc_HL => Laws.RoundTrip.inc_HL
  | .dec_HL => Laws.RoundTrip.dec_HL
  | .ld_SP_nn nn => Laws.RoundTrip.ld_SP_nn nn
  | .add_HL_SP => Laws.RoundTrip.add_HL_SP
  | .inc_SP => Laws.RoundTrip.inc_SP
  | .dec_SP => Laws.RoundTrip.dec_SP
  | .ld_atBC_A => Laws.RoundTrip.ld_atBC_A
  | .ld_atDE_A => Laws.RoundTrip.ld_atDE_A
  | .ld_atNn_HL nn => Laws.RoundTrip.ld_atNn_HL nn
  | .ld_atNn_A nn => Laws.RoundTrip.ld_atNn_A nn
  | .ld_A_atBC => Laws.RoundTrip.ld_A_atBC
  | .ld_A_atDE => Laws.RoundTrip.ld_A_atDE
  | .ld_HL_atNn nn => Laws.RoundTrip.ld_HL_atNn nn
  | .ld_A_atNn nn => Laws.RoundTrip.ld_A_atNn nn
  | .inc_B => Laws.RoundTrip.inc_B
  | .dec_B => Laws.RoundTrip.dec_B
  | .ld_B_n n => Laws.RoundTrip.ld_B_n n
  | .inc_C => Laws.RoundTrip.inc_C
  | .dec_C => Laws.RoundTrip.dec_C
  | .ld_C_n n => Laws.RoundTrip.ld_C_n n
  | .inc_D => Laws.RoundTrip.inc_D
  | .dec_D => Laws.RoundTrip.dec_D
  | .ld_D_n n => Laws.RoundTrip.ld_D_n n
  | .inc_E => Laws.RoundTrip.inc_E
  | .dec_E => Laws.RoundTrip.dec_E
  | .ld_E_n n => Laws.RoundTrip.ld_E_n n
  | .inc_H => Laws.RoundTrip.inc_H
  | .dec_H => Laws.RoundTrip.dec_H
  | .ld_H_n n => Laws.RoundTrip.ld_H_n n
  | .inc_L => Laws.RoundTrip.inc_L
  | .dec_L => Laws.RoundTrip.dec_L
  | .ld_L_n n => Laws.RoundTrip.ld_L_n n
  | .inc_atHL => Laws.RoundTrip.inc_atHL
  | .dec_atHL => Laws.RoundTrip.dec_atHL
  | .ld_atHL_n n => Laws.RoundTrip.ld_atHL_n n
  | .inc_A => Laws.RoundTrip.inc_A
  | .dec_A => Laws.RoundTrip.dec_A
  | .ld_A_n n => Laws.RoundTrip.ld_A_n n
  | .rlca => Laws.RoundTrip.rlca
  | .rrca => Laws.RoundTrip.rrca
  | .rla => Laws.RoundTrip.rla
  | .rra => Laws.RoundTrip.rra
  | .daa => Laws.RoundTrip.daa
  | .cpl => Laws.RoundTrip.cpl
  | .scf => Laws.RoundTrip.scf
  | .ccf => Laws.RoundTrip.ccf
  | .ld_B_B => Laws.RoundTrip.ld_B_B
  | .ld_B_C => Laws.RoundTrip.ld_B_C
  | .ld_B_D => Laws.RoundTrip.ld_B_D
  | .ld_B_E => Laws.RoundTrip.ld_B_E
  | .ld_B_H => Laws.RoundTrip.ld_B_H
  | .ld_B_L => Laws.RoundTrip.ld_B_L
  | .ld_B_atHL => Laws.RoundTrip.ld_B_atHL
  | .ld_B_A => Laws.RoundTrip.ld_B_A
  | .ld_C_B => Laws.RoundTrip.ld_C_B
  | .ld_C_C => Laws.RoundTrip.ld_C_C
  | .ld_C_D => Laws.RoundTrip.ld_C_D
  | .ld_C_E => Laws.RoundTrip.ld_C_E
  | .ld_C_H => Laws.RoundTrip.ld_C_H
  | .ld_C_L => Laws.RoundTrip.ld_C_L
  | .ld_C_atHL => Laws.RoundTrip.ld_C_atHL
  | .ld_C_A => Laws.RoundTrip.ld_C_A
  | .ld_D_B => Laws.RoundTrip.ld_D_B
  | .ld_D_C => Laws.RoundTrip.ld_D_C
  | .ld_D_D => Laws.RoundTrip.ld_D_D
  | .ld_D_E => Laws.RoundTrip.ld_D_E
  | .ld_D_H => Laws.RoundTrip.ld_D_H
  | .ld_D_L => Laws.RoundTrip.ld_D_L
  | .ld_D_atHL => Laws.RoundTrip.ld_D_atHL
  | .ld_D_A => Laws.RoundTrip.ld_D_A
  | .ld_E_B => Laws.RoundTrip.ld_E_B
  | .ld_E_C => Laws.RoundTrip.ld_E_C
  | .ld_E_D => Laws.RoundTrip.ld_E_D
  | .ld_E_E => Laws.RoundTrip.ld_E_E
  | .ld_E_H => Laws.RoundTrip.ld_E_H
  | .ld_E_L => Laws.RoundTrip.ld_E_L
  | .ld_E_atHL => Laws.RoundTrip.ld_E_atHL
  | .ld_E_A => Laws.RoundTrip.ld_E_A
  | .ld_H_B => Laws.RoundTrip.ld_H_B
  | .ld_H_C => Laws.RoundTrip.ld_H_C
  | .ld_H_D => Laws.RoundTrip.ld_H_D
  | .ld_H_E => Laws.RoundTrip.ld_H_E
  | .ld_H_H => Laws.RoundTrip.ld_H_H
  | .ld_H_L => Laws.RoundTrip.ld_H_L
  | .ld_H_atHL => Laws.RoundTrip.ld_H_atHL
  | .ld_H_A => Laws.RoundTrip.ld_H_A
  | .ld_L_B => Laws.RoundTrip.ld_L_B
  | .ld_L_C => Laws.RoundTrip.ld_L_C
  | .ld_L_D => Laws.RoundTrip.ld_L_D
  | .ld_L_E => Laws.RoundTrip.ld_L_E
  | .ld_L_H => Laws.RoundTrip.ld_L_H
  | .ld_L_L => Laws.RoundTrip.ld_L_L
  | .ld_L_atHL => Laws.RoundTrip.ld_L_atHL
  | .ld_L_A => Laws.RoundTrip.ld_L_A
  | .ld_atHL_B => Laws.RoundTrip.ld_atHL_B
  | .ld_atHL_C => Laws.RoundTrip.ld_atHL_C
  | .ld_atHL_D => Laws.RoundTrip.ld_atHL_D
  | .ld_atHL_E => Laws.RoundTrip.ld_atHL_E
  | .ld_atHL_H => Laws.RoundTrip.ld_atHL_H
  | .ld_atHL_L => Laws.RoundTrip.ld_atHL_L
  | .halt => Laws.RoundTrip.halt
  | .ld_atHL_A => Laws.RoundTrip.ld_atHL_A
  | .ld_A_B => Laws.RoundTrip.ld_A_B
  | .ld_A_C => Laws.RoundTrip.ld_A_C
  | .ld_A_D => Laws.RoundTrip.ld_A_D
  | .ld_A_E => Laws.RoundTrip.ld_A_E
  | .ld_A_H => Laws.RoundTrip.ld_A_H
  | .ld_A_L => Laws.RoundTrip.ld_A_L
  | .ld_A_atHL => Laws.RoundTrip.ld_A_atHL
  | .ld_A_A => Laws.RoundTrip.ld_A_A
  | .add_A_B => Laws.RoundTrip.add_A_B
  | .add_A_C => Laws.RoundTrip.add_A_C
  | .add_A_D => Laws.RoundTrip.add_A_D
  | .add_A_E => Laws.RoundTrip.add_A_E
  | .add_A_H => Laws.RoundTrip.add_A_H
  | .add_A_L => Laws.RoundTrip.add_A_L
  | .add_A_atHL => Laws.RoundTrip.add_A_atHL
  | .add_A_A => Laws.RoundTrip.add_A_A
  | .add_A_n n => Laws.RoundTrip.add_A_n n
  | .adc_A_B => Laws.RoundTrip.adc_A_B
  | .adc_A_C => Laws.RoundTrip.adc_A_C
  | .adc_A_D => Laws.RoundTrip.adc_A_D
  | .adc_A_E => Laws.RoundTrip.adc_A_E
  | .adc_A_H => Laws.RoundTrip.adc_A_H
  | .adc_A_L => Laws.RoundTrip.adc_A_L
  | .adc_A_atHL => Laws.RoundTrip.adc_A_atHL
  | .adc_A_A => Laws.RoundTrip.adc_A_A
  | .adc_A_n n => Laws.RoundTrip.adc_A_n n
  | .sub_B => Laws.RoundTrip.sub_B
  | .sub_C => Laws.RoundTrip.sub_C
  | .sub_D => Laws.RoundTrip.sub_D
  | .sub_E => Laws.RoundTrip.sub_E
  | .sub_H => Laws.RoundTrip.sub_H
  | .sub_L => Laws.RoundTrip.sub_L
  | .sub_atHL => Laws.RoundTrip.sub_atHL
  | .sub_A => Laws.RoundTrip.sub_A
  | .sub_n n => Laws.RoundTrip.sub_n n
  | .sbc_A_B => Laws.RoundTrip.sbc_A_B
  | .sbc_A_C => Laws.RoundTrip.sbc_A_C
  | .sbc_A_D => Laws.RoundTrip.sbc_A_D
  | .sbc_A_E => Laws.RoundTrip.sbc_A_E
  | .sbc_A_H => Laws.RoundTrip.sbc_A_H
  | .sbc_A_L => Laws.RoundTrip.sbc_A_L
  | .sbc_A_atHL => Laws.RoundTrip.sbc_A_atHL
  | .sbc_A_A => Laws.RoundTrip.sbc_A_A
  | .sbc_A_n n => Laws.RoundTrip.sbc_A_n n
  | .and_B => Laws.RoundTrip.and_B
  | .and_C => Laws.RoundTrip.and_C
  | .and_D => Laws.RoundTrip.and_D
  | .and_E => Laws.RoundTrip.and_E
  | .and_H => Laws.RoundTrip.and_H
  | .and_L => Laws.RoundTrip.and_L
  | .and_atHL => Laws.RoundTrip.and_atHL
  | .and_A => Laws.RoundTrip.and_A
  | .and_n n => Laws.RoundTrip.and_n n
  | .xor_B => Laws.RoundTrip.xor_B
  | .xor_C => Laws.RoundTrip.xor_C
  | .xor_D => Laws.RoundTrip.xor_D
  | .xor_E => Laws.RoundTrip.xor_E
  | .xor_H => Laws.RoundTrip.xor_H
  | .xor_L => Laws.RoundTrip.xor_L
  | .xor_atHL => Laws.RoundTrip.xor_atHL
  | .xor_A => Laws.RoundTrip.xor_A
  | .xor_n n => Laws.RoundTrip.xor_n n
  | .or_B => Laws.RoundTrip.or_B
  | .or_C => Laws.RoundTrip.or_C
  | .or_D => Laws.RoundTrip.or_D
  | .or_E => Laws.RoundTrip.or_E
  | .or_H => Laws.RoundTrip.or_H
  | .or_L => Laws.RoundTrip.or_L
  | .or_atHL => Laws.RoundTrip.or_atHL
  | .or_A => Laws.RoundTrip.or_A
  | .or_n n => Laws.RoundTrip.or_n n
  | .cp_B => Laws.RoundTrip.cp_B
  | .cp_C => Laws.RoundTrip.cp_C
  | .cp_D => Laws.RoundTrip.cp_D
  | .cp_E => Laws.RoundTrip.cp_E
  | .cp_H => Laws.RoundTrip.cp_H
  | .cp_L => Laws.RoundTrip.cp_L
  | .cp_atHL => Laws.RoundTrip.cp_atHL
  | .cp_A => Laws.RoundTrip.cp_A
  | .cp_n n => Laws.RoundTrip.cp_n n
  | .ret_NZ => Laws.RoundTrip.ret_NZ
  | .jp_NZ_nn nn => Laws.RoundTrip.jp_NZ_nn nn
  | .call_NZ_nn nn => Laws.RoundTrip.call_NZ_nn nn
  | .rst_00 => Laws.RoundTrip.rst_00
  | .ret_Z => Laws.RoundTrip.ret_Z
  | .jp_Z_nn nn => Laws.RoundTrip.jp_Z_nn nn
  | .call_Z_nn nn => Laws.RoundTrip.call_Z_nn nn
  | .rst_08 => Laws.RoundTrip.rst_08
  | .ret_NC => Laws.RoundTrip.ret_NC
  | .jp_NC_nn nn => Laws.RoundTrip.jp_NC_nn nn
  | .call_NC_nn nn => Laws.RoundTrip.call_NC_nn nn
  | .rst_10 => Laws.RoundTrip.rst_10
  | .ret_C => Laws.RoundTrip.ret_C
  | .jp_C_nn nn => Laws.RoundTrip.jp_C_nn nn
  | .call_C_nn nn => Laws.RoundTrip.call_C_nn nn
  | .rst_18 => Laws.RoundTrip.rst_18
  | .ret_PO => Laws.RoundTrip.ret_PO
  | .jp_PO_nn nn => Laws.RoundTrip.jp_PO_nn nn
  | .call_PO_nn nn => Laws.RoundTrip.call_PO_nn nn
  | .rst_20 => Laws.RoundTrip.rst_20
  | .ret_PE => Laws.RoundTrip.ret_PE
  | .jp_PE_nn nn => Laws.RoundTrip.jp_PE_nn nn
  | .call_PE_nn nn => Laws.RoundTrip.call_PE_nn nn
  | .rst_28 => Laws.RoundTrip.rst_28
  | .ret_P => Laws.RoundTrip.ret_P
  | .jp_P_nn nn => Laws.RoundTrip.jp_P_nn nn
  | .call_P_nn nn => Laws.RoundTrip.call_P_nn nn
  | .rst_30 => Laws.RoundTrip.rst_30
  | .ret_M => Laws.RoundTrip.ret_M
  | .jp_M_nn nn => Laws.RoundTrip.jp_M_nn nn
  | .call_M_nn nn => Laws.RoundTrip.call_M_nn nn
  | .rst_38 => Laws.RoundTrip.rst_38
  | .pop_BC => Laws.RoundTrip.pop_BC
  | .push_BC => Laws.RoundTrip.push_BC
  | .pop_DE => Laws.RoundTrip.pop_DE
  | .push_DE => Laws.RoundTrip.push_DE
  | .pop_HL => Laws.RoundTrip.pop_HL
  | .push_HL => Laws.RoundTrip.push_HL
  | .pop_AF => Laws.RoundTrip.pop_AF
  | .push_AF => Laws.RoundTrip.push_AF
  | .ret => Laws.RoundTrip.ret
  | .exx => Laws.RoundTrip.exx
  | .jp_HL => Laws.RoundTrip.jp_HL
  | .ld_SP_HL => Laws.RoundTrip.ld_SP_HL
  | .jp_nn nn => Laws.RoundTrip.jp_nn nn
  | .out_atN_A n => Laws.RoundTrip.out_atN_A n
  | .in_A_atN n => Laws.RoundTrip.in_A_atN n
  | .ex_atSP_HL => Laws.RoundTrip.ex_atSP_HL
  | .ex_DE_HL => Laws.RoundTrip.ex_DE_HL
  | .di => Laws.RoundTrip.di
  | .ei => Laws.RoundTrip.ei
  | .call_nn nn => Laws.RoundTrip.call_nn nn
  | .rlc_B => Laws.RoundTrip.rlc_B
  | .rlc_C => Laws.RoundTrip.rlc_C
  | .rlc_D => Laws.RoundTrip.rlc_D
  | .rlc_E => Laws.RoundTrip.rlc_E
  | .rlc_H => Laws.RoundTrip.rlc_H
  | .rlc_L => Laws.RoundTrip.rlc_L
  | .rlc_atHL => Laws.RoundTrip.rlc_atHL
  | .rlc_A => Laws.RoundTrip.rlc_A
  | .rrc_B => Laws.RoundTrip.rrc_B
  | .rrc_C => Laws.RoundTrip.rrc_C
  | .rrc_D => Laws.RoundTrip.rrc_D
  | .rrc_E => Laws.RoundTrip.rrc_E
  | .rrc_H => Laws.RoundTrip.rrc_H
  | .rrc_L => Laws.RoundTrip.rrc_L
  | .rrc_atHL => Laws.RoundTrip.rrc_atHL
  | .rrc_A => Laws.RoundTrip.rrc_A
  | .rl_B => Laws.RoundTrip.rl_B
  | .rl_C => Laws.RoundTrip.rl_C
  | .rl_D => Laws.RoundTrip.rl_D
  | .rl_E => Laws.RoundTrip.rl_E
  | .rl_H => Laws.RoundTrip.rl_H
  | .rl_L => Laws.RoundTrip.rl_L
  | .rl_atHL => Laws.RoundTrip.rl_atHL
  | .rl_A => Laws.RoundTrip.rl_A
  | .rr_B => Laws.RoundTrip.rr_B
  | .rr_C => Laws.RoundTrip.rr_C
  | .rr_D => Laws.RoundTrip.rr_D
  | .rr_E => Laws.RoundTrip.rr_E
  | .rr_H => Laws.RoundTrip.rr_H
  | .rr_L => Laws.RoundTrip.rr_L
  | .rr_atHL => Laws.RoundTrip.rr_atHL
  | .rr_A => Laws.RoundTrip.rr_A
  | .sla_B => Laws.RoundTrip.sla_B
  | .sla_C => Laws.RoundTrip.sla_C
  | .sla_D => Laws.RoundTrip.sla_D
  | .sla_E => Laws.RoundTrip.sla_E
  | .sla_H => Laws.RoundTrip.sla_H
  | .sla_L => Laws.RoundTrip.sla_L
  | .sla_atHL => Laws.RoundTrip.sla_atHL
  | .sla_A => Laws.RoundTrip.sla_A
  | .sra_B => Laws.RoundTrip.sra_B
  | .sra_C => Laws.RoundTrip.sra_C
  | .sra_D => Laws.RoundTrip.sra_D
  | .sra_E => Laws.RoundTrip.sra_E
  | .sra_H => Laws.RoundTrip.sra_H
  | .sra_L => Laws.RoundTrip.sra_L
  | .sra_atHL => Laws.RoundTrip.sra_atHL
  | .sra_A => Laws.RoundTrip.sra_A
  | .sll_B => Laws.RoundTrip.sll_B
  | .sll_C => Laws.RoundTrip.sll_C
  | .sll_D => Laws.RoundTrip.sll_D
  | .sll_E => Laws.RoundTrip.sll_E
  | .sll_H => Laws.RoundTrip.sll_H
  | .sll_L => Laws.RoundTrip.sll_L
  | .sll_atHL => Laws.RoundTrip.sll_atHL
  | .sll_A => Laws.RoundTrip.sll_A
  | .srl_B => Laws.RoundTrip.srl_B
  | .srl_C => Laws.RoundTrip.srl_C
  | .srl_D => Laws.RoundTrip.srl_D
  | .srl_E => Laws.RoundTrip.srl_E
  | .srl_H => Laws.RoundTrip.srl_H
  | .srl_L => Laws.RoundTrip.srl_L
  | .srl_atHL => Laws.RoundTrip.srl_atHL
  | .srl_A => Laws.RoundTrip.srl_A
  | .bit_b_B b => Laws.RoundTrip.bit_b_B b
  | .bit_b_C b => Laws.RoundTrip.bit_b_C b
  | .bit_b_D b => Laws.RoundTrip.bit_b_D b
  | .bit_b_E b => Laws.RoundTrip.bit_b_E b
  | .bit_b_H b => Laws.RoundTrip.bit_b_H b
  | .bit_b_L b => Laws.RoundTrip.bit_b_L b
  | .bit_b_atHL b => Laws.RoundTrip.bit_b_atHL b
  | .bit_b_A b => Laws.RoundTrip.bit_b_A b
  | .res_b_B b => Laws.RoundTrip.res_b_B b
  | .res_b_C b => Laws.RoundTrip.res_b_C b
  | .res_b_D b => Laws.RoundTrip.res_b_D b
  | .res_b_E b => Laws.RoundTrip.res_b_E b
  | .res_b_H b => Laws.RoundTrip.res_b_H b
  | .res_b_L b => Laws.RoundTrip.res_b_L b
  | .res_b_atHL b => Laws.RoundTrip.res_b_atHL b
  | .res_b_A b => Laws.RoundTrip.res_b_A b
  | .set_b_B b => Laws.RoundTrip.set_b_B b
  | .set_b_C b => Laws.RoundTrip.set_b_C b
  | .set_b_D b => Laws.RoundTrip.set_b_D b
  | .set_b_E b => Laws.RoundTrip.set_b_E b
  | .set_b_H b => Laws.RoundTrip.set_b_H b
  | .set_b_L b => Laws.RoundTrip.set_b_L b
  | .set_b_atHL b => Laws.RoundTrip.set_b_atHL b
  | .set_b_A b => Laws.RoundTrip.set_b_A b
  | .in_B_atC => Laws.RoundTrip.in_B_atC
  | .out_atC_B => Laws.RoundTrip.out_atC_B
  | .in_C_atC => Laws.RoundTrip.in_C_atC
  | .out_atC_C => Laws.RoundTrip.out_atC_C
  | .in_D_atC => Laws.RoundTrip.in_D_atC
  | .out_atC_D => Laws.RoundTrip.out_atC_D
  | .in_E_atC => Laws.RoundTrip.in_E_atC
  | .out_atC_E => Laws.RoundTrip.out_atC_E
  | .in_H_atC => Laws.RoundTrip.in_H_atC
  | .out_atC_H => Laws.RoundTrip.out_atC_H
  | .in_L_atC => Laws.RoundTrip.in_L_atC
  | .out_atC_L => Laws.RoundTrip.out_atC_L
  | .in_atC => Laws.RoundTrip.in_atC
  | .out_atC_0 => Laws.RoundTrip.out_atC_0
  | .in_A_atC => Laws.RoundTrip.in_A_atC
  | .out_atC_A => Laws.RoundTrip.out_atC_A
  | .sbc_HL_BC => Laws.RoundTrip.sbc_HL_BC
  | .adc_HL_BC => Laws.RoundTrip.adc_HL_BC
  | .ld_atNn_BC nn => Laws.RoundTrip.ld_atNn_BC nn
  | .ld_BC_atNn nn => Laws.RoundTrip.ld_BC_atNn nn
  | .sbc_HL_DE => Laws.RoundTrip.sbc_HL_DE
  | .adc_HL_DE => Laws.RoundTrip.adc_HL_DE
  | .ld_atNn_DE nn => Laws.RoundTrip.ld_atNn_DE nn
  | .ld_DE_atNn nn => Laws.RoundTrip.ld_DE_atNn nn
  | .sbc_HL_HL => Laws.RoundTrip.sbc_HL_HL
  | .adc_HL_HL => Laws.RoundTrip.adc_HL_HL
  | .ld_atNn_HL_ed nn => Laws.RoundTrip.ld_atNn_HL_ed nn
  | .ld_HL_atNn_ed nn => Laws.RoundTrip.ld_HL_atNn_ed nn
  | .sbc_HL_SP => Laws.RoundTrip.sbc_HL_SP
  | .adc_HL_SP => Laws.RoundTrip.adc_HL_SP
  | .ld_atNn_SP nn => Laws.RoundTrip.ld_atNn_SP nn
  | .ld_SP_atNn nn => Laws.RoundTrip.ld_SP_atNn nn
  | .neg => Laws.RoundTrip.neg
  | .retn => Laws.RoundTrip.retn
  | .reti => Laws.RoundTrip.reti
  | .im_0 => Laws.RoundTrip.im_0
  | .im_1 => Laws.RoundTrip.im_1
  | .im_2 => Laws.RoundTrip.im_2
  | .ld_I_A => Laws.RoundTrip.ld_I_A
  | .ld_R_A => Laws.RoundTrip.ld_R_A
  | .ld_A_I => Laws.RoundTrip.ld_A_I
  | .ld_A_R => Laws.RoundTrip.ld_A_R
  | .rrd => Laws.RoundTrip.rrd
  | .rld => Laws.RoundTrip.rld
  | .ldi => Laws.RoundTrip.ldi
  | .cpi => Laws.RoundTrip.cpi
  | .ini => Laws.RoundTrip.ini
  | .outi => Laws.RoundTrip.outi
  | .ldd => Laws.RoundTrip.ldd
  | .cpd => Laws.RoundTrip.cpd
  | .ind => Laws.RoundTrip.ind
  | .outd => Laws.RoundTrip.outd
  | .ldir => Laws.RoundTrip.ldir
  | .cpir => Laws.RoundTrip.cpir
  | .inir => Laws.RoundTrip.inir
  | .otir => Laws.RoundTrip.otir
  | .lddr => Laws.RoundTrip.lddr
  | .cpdr => Laws.RoundTrip.cpdr
  | .indr => Laws.RoundTrip.indr
  | .otdr => Laws.RoundTrip.otdr
  | .add_IX_BC => Laws.RoundTrip.add_IX_BC
  | .add_IX_DE => Laws.RoundTrip.add_IX_DE
  | .add_IX_IX => Laws.RoundTrip.add_IX_IX
  | .add_IX_SP => Laws.RoundTrip.add_IX_SP
  | .ld_IX_nn nn => Laws.RoundTrip.ld_IX_nn nn
  | .ld_atNn_IX nn => Laws.RoundTrip.ld_atNn_IX nn
  | .ld_IX_atNn nn => Laws.RoundTrip.ld_IX_atNn nn
  | .inc_IX => Laws.RoundTrip.inc_IX
  | .dec_IX => Laws.RoundTrip.dec_IX
  | .inc_IXH => Laws.RoundTrip.inc_IXH
  | .dec_IXH => Laws.RoundTrip.dec_IXH
  | .ld_IXH_n n => Laws.RoundTrip.ld_IXH_n n
  | .inc_IXL => Laws.RoundTrip.inc_IXL
  | .dec_IXL => Laws.RoundTrip.dec_IXL
  | .ld_IXL_n n => Laws.RoundTrip.ld_IXL_n n
  | .inc_atIXd d => Laws.RoundTrip.inc_atIXd d
  | .dec_atIXd d => Laws.RoundTrip.dec_atIXd d
  | .ld_atIXd_n d n => Laws.RoundTrip.ld_atIXd_n d n
  | .ld_B_IXH => Laws.RoundTrip.ld_B_IXH
  | .ld_B_IXL => Laws.RoundTrip.ld_B_IXL
  | .ld_B_atIXd d => Laws.RoundTrip.ld_B_atIXd d
  | .ld_C_IXH => Laws.RoundTrip.ld_C_IXH
  | .ld_C_IXL => Laws.RoundTrip.ld_C_IXL
  | .ld_C_atIXd d => Laws.RoundTrip.ld_C_atIXd d
  | .ld_D_IXH => Laws.RoundTrip.ld_D_IXH
  | .ld_D_IXL => Laws.RoundTrip.ld_D_IXL
  | .ld_D_atIXd d => Laws.RoundTrip.ld_D_atIXd d
  | .ld_E_IXH => Laws.RoundTrip.ld_E_IXH
  | .ld_E_IXL => Laws.RoundTrip.ld_E_IXL
  | .ld_E_atIXd d => Laws.RoundTrip.ld_E_atIXd d
  | .ld_IXH_B => Laws.RoundTrip.ld_IXH_B
  | .ld_IXH_C => Laws.RoundTrip.ld_IXH_C
  | .ld_IXH_D => Laws.RoundTrip.ld_IXH_D
  | .ld_IXH_E => Laws.RoundTrip.ld_IXH_E
  | .ld_IXH_IXH => Laws.RoundTrip.ld_IXH_IXH
  | .ld_IXH_IXL => Laws.RoundTrip.ld_IXH_IXL
  | .ld_H_atIXd d => Laws.RoundTrip.ld_H_atIXd d
  | .ld_IXH_A => Laws.RoundTrip.ld_IXH_A
  | .ld_IXL_B => Laws.RoundTrip.ld_IXL_B
  | .ld_IXL_C => Laws.RoundTrip.ld_IXL_C
  | .ld_IXL_D => Laws.RoundTrip.ld_IXL_D
  | .ld_IXL_E => Laws.RoundTrip.ld_IXL_E
  | .ld_IXL_IXH => Laws.RoundTrip.ld_IXL_IXH
  | .ld_IXL_IXL => Laws.RoundTrip.ld_IXL_IXL
  | .ld_L_atIXd d => Laws.RoundTrip.ld_L_atIXd d
  | .ld_IXL_A => Laws.RoundTrip.ld_IXL_A
  | .ld_atIXd_B d => Laws.RoundTrip.ld_atIXd_B d
  | .ld_atIXd_C d => Laws.RoundTrip.ld_atIXd_C d
  | .ld_atIXd_D d => Laws.RoundTrip.ld_atIXd_D d
  | .ld_atIXd_E d => Laws.RoundTrip.ld_atIXd_E d
  | .ld_atIXd_H d => Laws.RoundTrip.ld_atIXd_H d
  | .ld_atIXd_L d => Laws.RoundTrip.ld_atIXd_L d
  | .ld_atIXd_A d => Laws.RoundTrip.ld_atIXd_A d
  | .ld_A_IXH => Laws.RoundTrip.ld_A_IXH
  | .ld_A_IXL => Laws.RoundTrip.ld_A_IXL
  | .ld_A_atIXd d => Laws.RoundTrip.ld_A_atIXd d
  | .add_A_IXH => Laws.RoundTrip.add_A_IXH
  | .add_A_IXL => Laws.RoundTrip.add_A_IXL
  | .add_A_atIXd d => Laws.RoundTrip.add_A_atIXd d
  | .adc_A_IXH => Laws.RoundTrip.adc_A_IXH
  | .adc_A_IXL => Laws.RoundTrip.adc_A_IXL
  | .adc_A_atIXd d => Laws.RoundTrip.adc_A_atIXd d
  | .sub_IXH => Laws.RoundTrip.sub_IXH
  | .sub_IXL => Laws.RoundTrip.sub_IXL
  | .sub_atIXd d => Laws.RoundTrip.sub_atIXd d
  | .sbc_A_IXH => Laws.RoundTrip.sbc_A_IXH
  | .sbc_A_IXL => Laws.RoundTrip.sbc_A_IXL
  | .sbc_A_atIXd d => Laws.RoundTrip.sbc_A_atIXd d
  | .and_IXH => Laws.RoundTrip.and_IXH
  | .and_IXL => Laws.RoundTrip.and_IXL
  | .and_atIXd d => Laws.RoundTrip.and_atIXd d
  | .xor_IXH => Laws.RoundTrip.xor_IXH
  | .xor_IXL => Laws.RoundTrip.xor_IXL
  | .xor_atIXd d => Laws.RoundTrip.xor_atIXd d
  | .or_IXH => Laws.RoundTrip.or_IXH
  | .or_IXL => Laws.RoundTrip.or_IXL
  | .or_atIXd d => Laws.RoundTrip.or_atIXd d
  | .cp_IXH => Laws.RoundTrip.cp_IXH
  | .cp_IXL => Laws.RoundTrip.cp_IXL
  | .cp_atIXd d => Laws.RoundTrip.cp_atIXd d
  | .pop_IX => Laws.RoundTrip.pop_IX
  | .push_IX => Laws.RoundTrip.push_IX
  | .ex_atSP_IX => Laws.RoundTrip.ex_atSP_IX
  | .jp_IX => Laws.RoundTrip.jp_IX
  | .ld_SP_IX => Laws.RoundTrip.ld_SP_IX
  | .rlc_atIXd d => Laws.RoundTrip.rlc_atIXd d
  | .rrc_atIXd d => Laws.RoundTrip.rrc_atIXd d
  | .rl_atIXd d => Laws.RoundTrip.rl_atIXd d
  | .rr_atIXd d => Laws.RoundTrip.rr_atIXd d
  | .sla_atIXd d => Laws.RoundTrip.sla_atIXd d
  | .sra_atIXd d => Laws.RoundTrip.sra_atIXd d
  | .sll_atIXd d => Laws.RoundTrip.sll_atIXd d
  | .srl_atIXd d => Laws.RoundTrip.srl_atIXd d
  | .bit_b_atIXd b d => Laws.RoundTrip.bit_b_atIXd b d
  | .res_b_atIXd b d => Laws.RoundTrip.res_b_atIXd b d
  | .set_b_atIXd b d => Laws.RoundTrip.set_b_atIXd b d
  | .add_IY_BC => Laws.RoundTrip.add_IY_BC
  | .add_IY_DE => Laws.RoundTrip.add_IY_DE
  | .add_IY_IY => Laws.RoundTrip.add_IY_IY
  | .add_IY_SP => Laws.RoundTrip.add_IY_SP
  | .ld_IY_nn nn => Laws.RoundTrip.ld_IY_nn nn
  | .ld_atNn_IY nn => Laws.RoundTrip.ld_atNn_IY nn
  | .ld_IY_atNn nn => Laws.RoundTrip.ld_IY_atNn nn
  | .inc_IY => Laws.RoundTrip.inc_IY
  | .dec_IY => Laws.RoundTrip.dec_IY
  | .inc_IYH => Laws.RoundTrip.inc_IYH
  | .dec_IYH => Laws.RoundTrip.dec_IYH
  | .ld_IYH_n n => Laws.RoundTrip.ld_IYH_n n
  | .inc_IYL => Laws.RoundTrip.inc_IYL
  | .dec_IYL => Laws.RoundTrip.dec_IYL
  | .ld_IYL_n n => Laws.RoundTrip.ld_IYL_n n
  | .inc_atIYd d => Laws.RoundTrip.inc_atIYd d
  | .dec_atIYd d => Laws.RoundTrip.dec_atIYd d
  | .ld_atIYd_n d n => Laws.RoundTrip.ld_atIYd_n d n
  | .ld_B_IYH => Laws.RoundTrip.ld_B_IYH
  | .ld_B_IYL => Laws.RoundTrip.ld_B_IYL
  | .ld_B_atIYd d => Laws.RoundTrip.ld_B_atIYd d
  | .ld_C_IYH => Laws.RoundTrip.ld_C_IYH
  | .ld_C_IYL => Laws.RoundTrip.ld_C_IYL
  | .ld_C_atIYd d => Laws.RoundTrip.ld_C_atIYd d
  | .ld_D_IYH => Laws.RoundTrip.ld_D_IYH
  | .ld_D_IYL => Laws.RoundTrip.ld_D_IYL
  | .ld_D_atIYd d => Laws.RoundTrip.ld_D_atIYd d
  | .ld_E_IYH => Laws.RoundTrip.ld_E_IYH
  | .ld_E_IYL => Laws.RoundTrip.ld_E_IYL
  | .ld_E_atIYd d => Laws.RoundTrip.ld_E_atIYd d
  | .ld_IYH_B => Laws.RoundTrip.ld_IYH_B
  | .ld_IYH_C => Laws.RoundTrip.ld_IYH_C
  | .ld_IYH_D => Laws.RoundTrip.ld_IYH_D
  | .ld_IYH_E => Laws.RoundTrip.ld_IYH_E
  | .ld_IYH_IYH => Laws.RoundTrip.ld_IYH_IYH
  | .ld_IYH_IYL => Laws.RoundTrip.ld_IYH_IYL
  | .ld_H_atIYd d => Laws.RoundTrip.ld_H_atIYd d
  | .ld_IYH_A => Laws.RoundTrip.ld_IYH_A
  | .ld_IYL_B => Laws.RoundTrip.ld_IYL_B
  | .ld_IYL_C => Laws.RoundTrip.ld_IYL_C
  | .ld_IYL_D => Laws.RoundTrip.ld_IYL_D
  | .ld_IYL_E => Laws.RoundTrip.ld_IYL_E
  | .ld_IYL_IYH => Laws.RoundTrip.ld_IYL_IYH
  | .ld_IYL_IYL => Laws.RoundTrip.ld_IYL_IYL
  | .ld_L_atIYd d => Laws.RoundTrip.ld_L_atIYd d
  | .ld_IYL_A => Laws.RoundTrip.ld_IYL_A
  | .ld_atIYd_B d => Laws.RoundTrip.ld_atIYd_B d
  | .ld_atIYd_C d => Laws.RoundTrip.ld_atIYd_C d
  | .ld_atIYd_D d => Laws.RoundTrip.ld_atIYd_D d
  | .ld_atIYd_E d => Laws.RoundTrip.ld_atIYd_E d
  | .ld_atIYd_H d => Laws.RoundTrip.ld_atIYd_H d
  | .ld_atIYd_L d => Laws.RoundTrip.ld_atIYd_L d
  | .ld_atIYd_A d => Laws.RoundTrip.ld_atIYd_A d
  | .ld_A_IYH => Laws.RoundTrip.ld_A_IYH
  | .ld_A_IYL => Laws.RoundTrip.ld_A_IYL
  | .ld_A_atIYd d => Laws.RoundTrip.ld_A_atIYd d
  | .add_A_IYH => Laws.RoundTrip.add_A_IYH
  | .add_A_IYL => Laws.RoundTrip.add_A_IYL
  | .add_A_atIYd d => Laws.RoundTrip.add_A_atIYd d
  | .adc_A_IYH => Laws.RoundTrip.adc_A_IYH
  | .adc_A_IYL => Laws.RoundTrip.adc_A_IYL
  | .adc_A_atIYd d => Laws.RoundTrip.adc_A_atIYd d
  | .sub_IYH => Laws.RoundTrip.sub_IYH
  | .sub_IYL => Laws.RoundTrip.sub_IYL
  | .sub_atIYd d => Laws.RoundTrip.sub_atIYd d
  | .sbc_A_IYH => Laws.RoundTrip.sbc_A_IYH
  | .sbc_A_IYL => Laws.RoundTrip.sbc_A_IYL
  | .sbc_A_atIYd d => Laws.RoundTrip.sbc_A_atIYd d
  | .and_IYH => Laws.RoundTrip.and_IYH
  | .and_IYL => Laws.RoundTrip.and_IYL
  | .and_atIYd d => Laws.RoundTrip.and_atIYd d
  | .xor_IYH => Laws.RoundTrip.xor_IYH
  | .xor_IYL => Laws.RoundTrip.xor_IYL
  | .xor_atIYd d => Laws.RoundTrip.xor_atIYd d
  | .or_IYH => Laws.RoundTrip.or_IYH
  | .or_IYL => Laws.RoundTrip.or_IYL
  | .or_atIYd d => Laws.RoundTrip.or_atIYd d
  | .cp_IYH => Laws.RoundTrip.cp_IYH
  | .cp_IYL => Laws.RoundTrip.cp_IYL
  | .cp_atIYd d => Laws.RoundTrip.cp_atIYd d
  | .pop_IY => Laws.RoundTrip.pop_IY
  | .push_IY => Laws.RoundTrip.push_IY
  | .ex_atSP_IY => Laws.RoundTrip.ex_atSP_IY
  | .jp_IY => Laws.RoundTrip.jp_IY
  | .ld_SP_IY => Laws.RoundTrip.ld_SP_IY
  | .rlc_atIYd d => Laws.RoundTrip.rlc_atIYd d
  | .rrc_atIYd d => Laws.RoundTrip.rrc_atIYd d
  | .rl_atIYd d => Laws.RoundTrip.rl_atIYd d
  | .rr_atIYd d => Laws.RoundTrip.rr_atIYd d
  | .sla_atIYd d => Laws.RoundTrip.sla_atIYd d
  | .sra_atIYd d => Laws.RoundTrip.sra_atIYd d
  | .sll_atIYd d => Laws.RoundTrip.sll_atIYd d
  | .srl_atIYd d => Laws.RoundTrip.srl_atIYd d
  | .bit_b_atIYd b d => Laws.RoundTrip.bit_b_atIYd b d
  | .res_b_atIYd b d => Laws.RoundTrip.res_b_atIYd b d
  | .set_b_atIYd b d => Laws.RoundTrip.set_b_atIYd b d

/-- The encoding of a well-formed instruction, decoded with nothing behind it. -/
theorem decode_encode_alone {i : Instr} (h : i.wellFormed = true) : decode (encode i) = .ok (i, []) := by
  simpa using decode_encode i h []

/-- How many operand bytes follow the opcode of a cell; nothing is said of a hole, nor of a cell behind `DD CB d` or
`FD CB d`, whose displacement stands before it (rules R93, R111). -/
def Cell.operandBytes : Cell → Option Nat
  | .hole => none
  | .disp _ => none
  | .op _ => some 0
  | .byte _ => some 1
  | .word _ => some 2
  | .twoBytes _ => some 2

/-- What an instruction takes of the bytes after its opcode is its operand bytes. -/
theorem Cell.length_of_finish {cell : Cell} {error : DecodeError} {rest more : List Byte} {i : Instr}
    (h : cell.finish error rest = .ok (i, more)) : ∃ n ∈ cell.operandBytes, rest.length = n + more.length := by
  cases cell with
  | hole => cases h
  | disp mk => cases h
  | op i => cases h; exact ⟨0, rfl, (Nat.zero_add _).symm⟩
  | byte mk =>
    match rest, h with
    | _ :: _, h => cases h; exact ⟨1, rfl, Nat.add_comm _ 1⟩
  | word mk =>
    match rest, h with
    | _ :: _ :: _, h => cases h; exact ⟨2, rfl, Nat.add_comm _ 2⟩
  | twoBytes mk =>
    match rest, h with
    | _ :: _ :: _, h => cases h; exact ⟨2, rfl, Nat.add_comm _ 2⟩

/-! ### The pages against the table of lengths (rule R92) -/

theorem mainPage_operandBytes : ∀ op : BitVec 8, isPrefixByte op = false →
    ∀ n ∈ (mainPage.cellAt op).operandBytes, n + 1 = lengthFromBytes op 0 := by decide

theorem cbPage_operandBytes : ∀ op : BitVec 8, ∀ n ∈ (cbPage.cellAt op).operandBytes,
    n + 2 = lengthFromBytes 0xCB op := by decide

theorem edPage_operandBytes : ∀ op : BitVec 8, ∀ n ∈ (edPage.cellAt op).operandBytes,
    n + 2 = lengthFromBytes 0xED op := by decide

theorem ddPage_operandBytes : ∀ op : BitVec 8, op ≠ 0xCB → ∀ n ∈ (ddPage.cellAt op).operandBytes,
    n + 2 = lengthFromBytes 0xDD op := by decide

theorem fdPage_operandBytes : ∀ op : BitVec 8, op ≠ 0xCB → ∀ n ∈ (fdPage.cellAt op).operandBytes,
    n + 2 = lengthFromBytes 0xFD op := by decide

/-- What selects no other page is none of the four. -/
theorem isPrefixByte_eq_false_iff {op : Byte} :
    isPrefixByte op = false ↔ op ≠ 0xCB ∧ op ≠ 0xED ∧ op ≠ 0xDD ∧ op ≠ 0xFD := by
  simp [isPrefixByte, and_assoc]

/-- Four bytes select another page. -/
theorem isPrefixByte_iff {op : Byte} : isPrefixByte op = true ↔
    op = 0xCB ∨ op = 0xED ∨ op = 0xDD ∨ op = 0xFD := by
  simp [isPrefixByte, or_assoc]

/-- Of an instruction of the main page the second byte is not looked at. -/
theorem lengthFromBytes_of_unprefixed {b0 : Byte} (h : isPrefixByte b0 = false) (b1 : Byte) :
    lengthFromBytes b0 b1 = lengthFromBytes b0 0 := by
  obtain ⟨hcb, hed, hdd, hfd⟩ := isPrefixByte_eq_false_iff.1 h
  simp only [lengthFromBytes, if_neg hcb, if_neg hed, if_neg (not_or.2 ⟨hdd, hfd⟩)]

/-- No instruction of another page than the main one has one byte. -/
theorem lengthFromBytes_prefixed : ∀ b0 : BitVec 8, isPrefixByte b0 = true → lengthFromBytes b0 0 ≠ 1 := by decide

/-- What the first byte alone says to be one byte long is so with any second byte. -/
theorem lengthFromBytes_of_one {b0 : Byte} (h : lengthFromBytes b0 0 = 1) (b1 : Byte) : lengthFromBytes b0 b1 = 1 := by
  have hp : isPrefixByte b0 = false := by
    by_contra hp
    exact lengthFromBytes_prefixed b0 (by simpa using hp) h
  exact (lengthFromBytes_of_unprefixed hp b1).trans h

/-! ### The branches of the decoder (rule R91) -/

theorem decodeIndex_of_ne (page bitPage : Page) {op : Byte} (rest : List Byte) (h : op ≠ 0xCB) :
    decodeIndex page bitPage (op :: rest) = decodePaged page .unassignedIndex (op :: rest) := if_neg h

theorem decode_unprefixed {op : Byte} (rest : List Byte) (h : isPrefixByte op = false) :
    decode (op :: rest) = (mainPage.cellAt op).finish .unassigned rest := by
  obtain ⟨hcb, hed, hdd, hfd⟩ := isPrefixByte_eq_false_iff.1 h
  simp only [decode, if_neg hcb, if_neg hed, if_neg hdd, if_neg hfd]

/-! ### What decodes has the length its leading bytes say -/

/-- Behind `CB` and `ED`. -/
theorem length_of_decodePaged {page : Page} {error : DecodeError} {b0 b1 : Byte} {rest more : List Byte} {i : Instr}
    (hpage : ∀ n ∈ (page.cellAt b1).operandBytes, n + 2 = lengthFromBytes b0 b1)
    (h : decodePaged page error (b1 :: rest) = .ok (i, more)) :
    rest.length + 2 = lengthFromBytes b0 b1 + more.length := by
  obtain ⟨n, hn, hlen⟩ := Cell.length_of_finish h
  have := hpage n hn
  omega

/-- Behind `DD CB` and `FD CB`. -/
theorem length_of_decodeIndexBit {page : Page} {bytes more : List Byte} {i : Instr}
    (h : decodeIndexBit page bytes = .ok (i, more)) : bytes.length = 2 + more.length := by
  unfold decodeIndexBit at h
  split at h
  · split at h
    · cases h; exact Nat.add_comm _ 2
    · cases h
  · cases h

/-- Behind `DD` and `FD`. -/
theorem length_of_decodeIndex {page bitPage : Page} {b0 b1 : Byte} {rest more : List Byte} {i : Instr}
    (hbit : lengthFromBytes b0 0xCB = 4)
    (hpage : b1 ≠ 0xCB → ∀ n ∈ (page.cellAt b1).operandBytes, n + 2 = lengthFromBytes b0 b1)
    (h : decodeIndex page bitPage (b1 :: rest) = .ok (i, more)) :
    rest.length + 2 = lengthFromBytes b0 b1 + more.length := by
  by_cases hcb : b1 = 0xCB
  · subst hcb
    have := length_of_decodeIndexBit (page := bitPage) h
    omega
  · rw [decodeIndex_of_ne page bitPage rest hcb] at h
    exact length_of_decodePaged (hpage hcb) h

/-- Bytes that decode give up as many to the instruction as the leading two say (rule R92). -/
theorem length_of_decode {b0 b1 : Byte} {rest more : List Byte} {i : Instr}
    (h : decode (b0 :: b1 :: rest) = .ok (i, more)) : rest.length + 2 = lengthFromBytes b0 b1 + more.length := by
  cases hp : isPrefixByte b0 with
  | false =>
    rw [decode_unprefixed _ hp] at h
    obtain ⟨n, hn, hlen⟩ := Cell.length_of_finish h
    have := mainPage_operandBytes b0 hp n hn
    have := lengthFromBytes_of_unprefixed hp b1
    rw [List.length_cons] at hlen
    omega
  | true =>
    rcases isPrefixByte_iff.1 hp with rfl | rfl | rfl | rfl
    · exact length_of_decodePaged (cbPage_operandBytes b1) h
    · exact length_of_decodePaged (edPage_operandBytes b1) h
    · exact length_of_decodeIndex rfl (ddPage_operandBytes b1) h
    · exact length_of_decodeIndex rfl (fdPage_operandBytes b1) h

/-- The bytes are as many as the leading ones say: one byte that says it is alone, or two and as many as they ask
for. -/
inductive LeadingBytesSayAll : List Byte → Prop where
  | one {b0 : Byte} (alone : lengthFromBytes b0 0 = 1) : LeadingBytesSayAll [b0]
  | longer {b0 b1 : Byte} {rest : List Byte} (notAlone : lengthFromBytes b0 0 ≠ 1)
      (said : rest.length + 2 = lengthFromBytes b0 b1) : LeadingBytesSayAll (b0 :: b1 :: rest)

theorem LeadingBytesSayAll.ne_nil {bytes : List Byte} (h : LeadingBytesSayAll bytes) : bytes ≠ [] := by
  cases h <;> exact List.cons_ne_nil _ _

/-- A fetch that goes by the leading bytes reads the whole encoding of an instruction, and no more. -/
theorem encode_leadingBytesSayAll {i : Instr} (h : i.wellFormed = true) : LeadingBytesSayAll (encode i) := by
  have hd := decode_encode i h
  match encode i, hd with
  | [], hd => cases hd []
  | [b0], hd =>
    have := length_of_decode (hd [0])
    exact .one (by simpa using this.symm)
  | b0 :: b1 :: rest, hd =>
    have hsaid : rest.length + 2 = lengthFromBytes b0 b1 := by simpa using length_of_decode (hd [])
    refine .longer (fun h1 => ?_) hsaid
    have := lengthFromBytes_of_one h1 b1
    omega

end Sys2Proof
end

section
/-! SUPPORT. The fetch of an instruction that RAM or ROM holds (20_memory.md rules R62, R73), and that every instruction
ends in a next state. -/

namespace Sys2Proof.Machine

/-- The addresses from one on, counted from the next (rule R72). -/
theorem add_ofNat_succ (addr : Word) (k : Nat) : addr + BitVec.ofNat 16 (k + 1) = addr + 1 + BitVec.ofNat 16 k := by
  rw [Nat.add_comm k 1, BitVec.ofNat_add, ← BitVec.add_assoc]
  rfl

theorem State.Holds.tail {s : State} {addr : Word} {b : Byte} {bytes : List Byte} (h : s.Holds addr (b :: bytes)) :
    s.Holds (addr + 1) bytes := fun k hk =>
  (congrArg s.peek (add_ofNat_succ addr k)).symm.trans (h (k + 1) (Nat.succ_lt_succ hk))

theorem State.Fetchable.tail {s : State} {addr : Word} {n : Nat} (h : s.Fetchable addr (n + 1)) :
    s.Fetchable (addr + 1) n := fun k hk => add_ofNat_succ addr k ▸ h (k + 1) (Nat.succ_lt_succ hk)

/-- The byte read at an address is the one held there. -/
theorem State.readByte_of_holds {s : State} {addr : Word} {b : Byte} {bytes : List Byte} {n : Nat}
    (hh : s.Holds addr (b :: bytes)) (hf : s.Fetchable addr (n + 1)) : s.readByte addr = (b, s) := by
  have hkind : s.kindAt addr = .ram ∨ s.kindAt addr = .rom := by simpa using hf 0 n.succ_pos
  have hpeek : s.peek addr = b := by simpa using hh 0 bytes.length.succ_pos
  rw [State.readByte_of_held hkind, hpeek]

/-- Bytes held are the bytes read, and reading them changes nothing. -/
theorem State.readBytes_of_holds {s : State} {bytes : List Byte} {addr : Word} (hh : s.Holds addr bytes)
    (hf : s.Fetchable addr bytes.length) : State.readBytes bytes.length addr s = (bytes, s) := by
  induction bytes generalizing addr with
  | nil => rfl
  | cons b bytes ih =>
    simp only [List.length_cons, State.readBytes, State.readByte_of_holds hh hf, ih hh.tail hf.tail]

theorem isOneByte_iff {b0 : Byte} : isOneByte b0 = true ↔ lengthFromBytes b0 0 = 1 := beq_iff_eq

/-- The bytes held at `PC`, if they are as many as the leading ones say, are the bytes fetched. -/
theorem State.fetch_of_holds {s : State} {bytes : List Byte} (hsaid : LeadingBytesSayAll bytes)
    (hh : s.Holds s.pc bytes) (hf : s.Fetchable s.pc bytes.length) : s.fetch = (bytes, s) := by
  cases hsaid with
  | one alone =>
    have hb := State.readByte_of_holds hh hf
    rw [State.fetch_of_one_byte (by rw [hb]; exact isOneByte_iff.2 alone), hb]
  | @longer b0 b1 rest notAlone said =>
    have hb0 := State.readByte_of_holds hh hf
    have hb1 := State.readByte_of_holds hh.tail hf.tail
    have hrest := State.readBytes_of_holds hh.tail.tail hf.tail.tail
    have hcount : lengthFromBytes b0 b1 - 2 = rest.length := by omega
    have hpc : s.pc + 1 + 1 = s.pc + 2 := BitVec.add_assoc s.pc 1 1
    rw [hpc] at hrest
    have hlong : isOneByte (s.readByte s.pc).1 = false := by
      rw [hb0]
      exact Bool.eq_false_iff.2 fun h => notAlone (isOneByte_iff.1 h)
    rw [State.fetch_of_longer hlong]
    simp only [hb0, hb1, hcount, hrest]

/-- The opcode fetches counted, as the claim counts them (rule R31). -/
theorem fetchCount_eq {bytes : List Byte} (hne : bytes ≠ []) :
    fetchCount bytes = if bytes.head? ∈ [some 0xCB, some 0xED, some 0xDD, some (0xFD : Byte)] then 2 else 1 := by
  cases bytes with
  | nil => exact absurd rfl hne
  | cons b0 rest =>
    have hmem : isPrefixByte b0 = true ↔
        (b0 :: rest).head? ∈ [some 0xCB, some 0xED, some 0xDD, some (0xFD : Byte)] := by
      rw [isPrefixByte_iff]
      simp
    simp only [fetchCount, hmem]

/-- Every instruction ends in a next state (rule R400). -/
theorem exec_next (i : Instr) (s : State) : ∃ t, exec i s = .next t := by
  rcases exec_untouched i s with hi | ⟨t, ht, -⟩
  · simp only [hiddenStateInstructions, List.mem_cons, List.not_mem_nil, or_false] at hi
    rcases hi with rfl | rfl | rfl | rfl | rfl | rfl | rfl | rfl | rfl | rfl <;> exact ⟨_, rfl⟩
  · exact ⟨t, ht⟩

/-- A step at which nothing comes first, with what was fetched and what it decodes to known. -/
theorem step_of_fetch {s u : State} {i : Instr} {bytes rest : List Byte} (hs : s.RunsNext)
    (hf : s.atFetch.fetch = (bytes, u)) (hd : decode bytes = .ok (i, rest)) :
    ∃ t, exec i (u.countFetches (fetchCount bytes)) = .next t ∧ step s = .next (t.elapse (instrTStates i t)) := by
  obtain ⟨t, ht⟩ := exec_next i (u.countFetches (fetchCount bytes))
  refine ⟨t, ht, ?_⟩
  rw [step_of_runsNext hs, State.runInstruction]
  simp only [hf, hd]
  exact State.execTimed_of_next ht

/-- Settles O48: the leading bytes of an encoding say its length, so the fetch reads exactly the encoding, which decodes
to the instruction. -/
theorem aStepRunsTheInstructionInMemory : Obligations.AStepRunsTheInstructionInMemory := by
  intro s i hwf hs hh hf
  have hsaid := encode_leadingBytesSayAll hwf
  have hfetch : s.atFetch.fetch = (encode i, s.atFetch) := State.fetch_of_holds hsaid hh hf
  obtain ⟨t, ht, hstep⟩ := step_of_fetch hs hfetch (decode_encode_alone hwf)
  rw [fetchCount_eq hsaid.ne_nil] at ht
  exact ⟨t, by rw [counted_eq]; exact ht, hstep⟩

end Sys2Proof.Machine
end

section
/-! SUPPORT. What a step can do to the state that only a few instructions reach (10_state.md rules R24, R32, R33), said
once for the acceptances, for `exec` and for the step. -/

namespace Sys2Proof.Machine

/-! ### Acceptances (rules R404 to R408) -/

theorem State.elapse_untouched (n : Nat) (s : State) : s.Untouched (s.elapse n) := .of_mem rfl rfl rfl

theorem State.countFetches_untouched (n : Nat) (s : State) : s.Untouched (s.countFetches n) := .of_mem rfl rfl rfl

theorem State.fetch_untouched (s : State) : s.Untouched s.fetch.2 := by
  rw [State.fetch_state]
  exact .of_mem rfl rfl rfl

theorem State.enterHandler_untouched (handler : Word) (s : State) :
    s.beginInterrupt.Untouched (s.enterHandler handler) :=
  (State.push16_untouched _ _).trans (State.goto_untouched _ _)

theorem State.acceptMode2_untouched (data : Byte) (s : State) :
    ({ s with iff2 := false } : State).beginInterrupt.Untouched (s.acceptMode2 data) :=
  ((State.push16_untouched _ _).trans (State.readWord_untouched _ _)).trans (State.goto_untouched _ _)

/-- Whatever `IM` says, an acceptance that is not refused clears both enables and leaves the rest. -/
theorem State.acceptInt_untouched {data : Byte} {s t : State} (h : s.acceptInt data = .next t) :
    ({ s with iff2 := false } : State).beginInterrupt.Untouched t := by
  rcases s.acceptInt_cases data with ⟨-, e⟩ | ⟨-, e⟩ | ⟨-, -, e⟩ | ⟨-, -, e⟩ <;> rw [e] at h <;> cases h
  · exact State.enterHandler_untouched _ _
  · exact s.acceptMode2_untouched data
  · exact State.enterHandler_untouched _ _

/-! ### Instructions -/

/-- The ten instructions that reach the shadow set, the interrupt state or the halt, each with the state it ends in. -/
inductive ReachesHiddenState (s : State) : Instr → State → Prop where
  | exAF : ReachesHiddenState s .ex_AF_AFshadow s.exchangeAF
  | exx : ReachesHiddenState s .exx s.exchangeShadow
  | di : ReachesHiddenState s .di s.disableInterrupts
  | ei : ReachesHiddenState s .ei s.enableInterrupts
  | halt : ReachesHiddenState s .halt s.halt
  | im0 : ReachesHiddenState s .im_0 (s.setIntMode .mode0)
  | im1 : ReachesHiddenState s .im_1 (s.setIntMode .mode1)
  | im2 : ReachesHiddenState s .im_2 (s.setIntMode .mode2)
  | reti : ReachesHiddenState s .reti s.returnFromInterrupt
  | retn : ReachesHiddenState s .retn s.returnFromInterrupt

/-- Everything that executing an instruction can do to the state that only a few reach. -/
theorem exec_cases {i : Instr} {s t : State} (h : exec i s = .next t) : s.Untouched t ∨ ReachesHiddenState s i t := by
  rcases exec_untouched i s with hi | ⟨u, hu, hk⟩
  · simp only [hiddenStateInstructions, List.mem_cons, List.not_mem_nil, or_false] at hi
    right
    rcases hi with rfl | rfl | rfl | rfl | rfl | rfl | rfl | rfl | rfl | rfl <;> cases h <;> constructor
  · rw [hu] at h
    cases h
    exact .inl hk

/-! ### Steps (rule R402) -/

/-- What a step that ends in a next state was, as far as the state that few instructions reach is concerned: a reset;
an acceptance, after which interrupts are disabled; an idle step; or an instruction, executed from a state that is the
one at the fetch but for the bus history and `R`. -/
inductive StepOutcome (s t : State) : Prop where
  | reset (requested : s.nextPins.reset = true) (state : t = s.samplePins.doReset)
  | nmi (left : ({ s.pastBoundary with nmiPending := false } : State).beginInterrupt.Untouched t)
  | interrupt (left : ({ s.pastBoundary with iff2 := false } : State).beginInterrupt.Untouched t)
  | idle (left : s.pastBoundary.Untouched t)
  | instruction {i : Instr} {rest : List Byte} {u v : State} (runs : s.RunsNext)
      (decoded : decode s.atFetch.fetch.1 = .ok (i, rest)) (fetched : s.atFetch.Untouched u)
      (executed : exec i u = .next v) (timed : v.Untouched t)

/-- Every step that ends in a next state is one of these. -/
theorem step_outcome {s t : State} (h : step s = .next t) : StepOutcome s t := by
  rcases step_cases s with ⟨hr, e⟩ | ⟨hr, ⟨-, e⟩ | ⟨hn, ⟨-, e⟩ | ⟨hi, ⟨-, e⟩ | ⟨hh, e⟩⟩⟩⟩ <;> rw [e] at h
  · cases h
    exact .reset hr rfl
  · cases h
    exact .nmi ((State.enterHandler_untouched _ _).trans (State.elapse_untouched _ _))
  · refine .interrupt (State.Untouched.trans ?_ (State.acceptInt_untouched h))
    exact .of_mem rfl rfl rfl
  · cases h
    exact .idle ((State.countFetches_untouched _ _).trans (State.elapse_untouched _ _))
  · rw [State.pastBoundary_of_no_nmi hn] at h
    rcases s.atFetch.runInstruction_cases with ⟨i, rest, hd, hrun⟩ | ⟨error, -, hrun⟩ <;> rw [hrun] at h
    · obtain ⟨v, hv, rfl⟩ := State.execTimed_next h
      exact .instruction (State.runsNext_of_tests hr hn hi hh) hd
        ((State.fetch_untouched _).trans (State.countFetches_untouched _ _)) hv (State.elapse_untouched _ _)
    · cases h

/-! ### The invariant (rules R33, R61, R411) -/

/-- What leaves the enables, the `EI` shadow and canonical memory keeps the invariant. -/
theorem State.Untouched.keeps_inv {s t : State} (h : s.Untouched t) (hs : s.Inv) : t.Inv where
  memory := h.canonical hs.memory
  enables := by rw [h.iff1, h.iff2]; exact hs.enables
  shadow := by rw [h.eiShadow, h.iff1]; exact hs.shadow

/-- With interrupts disabled and no `EI` just executed, only memory is left to ask about. -/
theorem State.Inv.of_disabled {s : State} (hm : Memory.wf s.mem = true) (h1 : s.iff1 = false)
    (he : s.eiShadow = false) : s.Inv where
  memory := hm
  enables := by simp [h1]
  shadow := by simp [he]

/-- Past the boundary the invariant still holds: the `EI` shadow is gone. -/
theorem State.Inv.atFetch {s : State} (hs : s.Inv) : s.atFetch.Inv where
  memory := hs.memory
  enables := hs.enables
  shadow := by simp [State.atFetch]

/-- `RETI` and `RETN` make `IFF1` what `IFF2` is. -/
theorem State.Inv.returnFromInterrupt {s : State} (hs : s.Inv) (he : s.eiShadow = false) :
    s.returnFromInterrupt.Inv where
  memory := s.pop16_untouched.canonical hs.memory
  enables := id
  shadow := fun h => absurd (s.pop16_untouched.eiShadow.symm.trans h) (by simp [he])

/-- Every instruction keeps the invariant, from a state whose `EI` shadow the boundary has consumed: without that, `DI`
right after `EI` would leave the shadow with interrupts disabled. -/
theorem exec_keeps_inv {i : Instr} {s t : State} (hs : s.Inv) (he : s.eiShadow = false) (h : exec i s = .next t) :
    t.Inv := by
  rcases exec_cases h with hk | hk
  · exact hk.keeps_inv hs
  · cases hk with
    | exAF | exx | halt | im0 | im1 | im2 => exact ⟨hs.memory, hs.enables, hs.shadow⟩
    | di => exact .of_disabled hs.memory rfl he
    | ei => exact ⟨hs.memory, fun _ => rfl, fun _ => rfl⟩
    | reti | retn => exact hs.returnFromInterrupt he

/-- Settles O57, by the outcomes of a step: reset and the acceptances disable interrupts, an idle step and an
instruction start with the `EI` shadow consumed. -/
theorem everyStepKeepsTheInvariant : Obligations.EveryStepKeepsTheInvariant := by
  intro s t hs h
  cases step_outcome h with
  | reset _ state => exact state ▸ .of_disabled hs.memory rfl rfl
  | nmi left | interrupt left => exact left.keeps_inv (.of_disabled hs.memory rfl rfl)
  | idle left => exact left.keeps_inv ⟨hs.memory, hs.enables, hs.atFetch.shadow⟩
  | instruction runs decoded fetched executed timed =>
    exact timed.keeps_inv (exec_keeps_inv (fetched.keeps_inv hs.atFetch) fetched.eiShadow executed)

/-- Settles O56: reset leaves memory empty, interrupts disabled and the `EI` shadow clear. -/
theorem resetStateIsGood : Obligations.ResetStateIsGood := .of_disabled Memory.wf_nil rfl rfl

/-- Settles O49, by computation: `State.reset` is a record of these values. -/
theorem resetStateHoldsTheSpecsValues : Obligations.ResetStateHoldsTheSpecsValues :=
  ⟨rfl, rfl, rfl, rfl, rfl, rfl, rfl, rfl, rfl⟩

/-! ### The hidden state (rules R24, R32) -/

/-- `A'` and `F'`. -/
def State.shadowAF (s : State) : Byte × Flags := (s.aShadow, s.fShadow)

/-- The shadow registers that `EXX` exchanges. -/
def State.shadowSet (s : State) : Byte × Byte × Byte × Byte × Byte × Byte :=
  (s.bShadow, s.cShadow, s.dShadow, s.eShadow, s.hShadow, s.lShadow)

theorem State.shadowAF_eq_iff {s t : State} :
    t.shadowAF = s.shadowAF ↔ t.aShadow = s.aShadow ∧ t.fShadow = s.fShadow := by
  simp [State.shadowAF]

theorem State.shadowSet_eq_iff {s t : State} :
    t.shadowSet = s.shadowSet ↔ t.bShadow = s.bShadow ∧ t.cShadow = s.cShadow ∧ t.dShadow = s.dShadow ∧
      t.eShadow = s.eShadow ∧ t.hShadow = s.hShadow ∧ t.lShadow = s.lShadow := by
  simp [State.shadowSet]

theorem State.Untouched.shadowAF {s t : State} (h : s.Untouched t) : t.shadowAF = s.shadowAF :=
  State.shadowAF_eq_iff.2 ⟨h.aShadow, h.fShadow⟩

theorem State.Untouched.shadowSet {s t : State} (h : s.Untouched t) : t.shadowSet = s.shadowSet :=
  State.shadowSet_eq_iff.2 ⟨h.bShadow, h.cShadow, h.dShadow, h.eShadow, h.hShadow, h.lShadow⟩

/-- Only `EX AF,AF'`, only `EXX` and only `IM` reach their part of the hidden state. -/
theorem exec_hiddenState {i : Instr} {s t : State} (h : exec i s = .next t) :
    (i ∈ [.ex_AF_AFshadow] ∨ t.shadowAF = s.shadowAF) ∧ (i ∈ [.exx] ∨ t.shadowSet = s.shadowSet) ∧
      (i ∈ [.im_0, .im_1, .im_2] ∨ t.im = s.im) := by
  rcases exec_cases h with hk | hk
  · exact ⟨.inr hk.shadowAF, .inr hk.shadowSet, .inr hk.im⟩
  · cases hk with
    | exAF => exact ⟨.inl (by simp), .inr rfl, .inr rfl⟩
    | exx => exact ⟨.inr rfl, .inl (by simp), .inr rfl⟩
    | im0 | im1 | im2 => exact ⟨.inr rfl, .inr rfl, .inl (by simp)⟩
    | di | ei | halt => exact ⟨.inr rfl, .inr rfl, .inr rfl⟩
    | reti | retn =>
      have hk := s.pop16_untouched
      exact ⟨.inr hk.shadowAF, .inr hk.shadowSet, .inr hk.im⟩

/-- Settles O59, by the outcomes of a step: of those, only an instruction can reach the shadow set, and only it and
reset the interrupt mode. -/
theorem onlyNamedInstructionsReachHiddenState : Obligations.OnlyNamedInstructionsReachHiddenState := by
  intro s t h
  rw [← State.shadowAF_eq_iff, ← State.shadowSet_eq_iff]
  cases step_outcome h with
  | reset requested state => exact ⟨.inr (state ▸ rfl), .inr (state ▸ rfl), .inr (.inl requested)⟩
  | nmi left | interrupt left | idle left =>
    exact ⟨.inr left.shadowAF, .inr left.shadowSet, .inr (.inr left.im)⟩
  | @instruction i rest u v runs decoded fetched executed timed =>
    have named : ∀ is, i ∈ is → s.RunsOneOf is := fun _ hi => ⟨runs, i, hi, rest, decoded⟩
    obtain ⟨hAF, hSet, hMode⟩ := exec_hiddenState executed
    exact ⟨hAF.imp (named _) fun e => timed.shadowAF.trans (e.trans fetched.shadowAF),
      hSet.imp (named _) fun e => timed.shadowSet.trans (e.trans fetched.shadowSet),
      hMode.imp (named _) fun e => .inr (timed.im.trans (e.trans fetched.im))⟩

end Sys2Proof.Machine
end

section
/-! SUPPORT. Reading registers, pairs and the flag byte after writing them (10_state.md rules R22, R23, R25). -/

namespace Sys2Proof.Machine

/-! ### The flag byte (rule R22) -/

/-- The layout of `F`, bit 7 first. -/
theorem Flags.toByte_toNat (f : Flags) :
    f.toByte.toNat = 128 * f.s.toNat + 64 * f.z.toNat + 32 * f.f5.toNat + 16 * f.h.toNat + 8 * f.f3.toNat +
      4 * f.pv.toNat + 2 * f.n.toNat + f.c.toNat := by
  have h : ∀ s z f5 h f3 pv n c : Bool, (Flags.mk s z f5 h f3 pv n c).toByte.toNat =
      128 * s.toNat + 64 * z.toNat + 32 * f5.toNat + 16 * h.toNat + 8 * f3.toNat + 4 * pv.toNat + 2 * n.toNat +
        c.toNat := by decide
  exact h f.s f.z f.f5 f.h f.f3 f.pv f.n f.c

@[simp] theorem Flags.ofByte_toByte (f : Flags) : Flags.ofByte f.toByte = f := by
  have h : ∀ s z f5 h f3 pv n c : Bool,
      Flags.ofByte (Flags.mk s z f5 h f3 pv n c).toByte = ⟨s, z, f5, h, f3, pv, n, c⟩ := by decide
  exact h f.s f.z f.f5 f.h f.f3 f.pv f.n f.c

@[simp] theorem Flags.toByte_ofByte (v : Byte) : (Flags.ofByte v).toByte = v := by
  have h : ∀ x : BitVec 8, (Flags.ofByte x).toByte = x := by decide
  exact h v

/-! ### Registers (rules R20, R25) -/

/-- A register written reads as what was written; an index half is its half of the index register. -/
@[simp] theorem State.reg8_setReg8_same (r : Reg8) (v : Byte) (s : State) : (s.setReg8 r v).reg8 r = v := by
  cases r with
  | ixh | ixl | iyh | iyl => simp [State.setReg8, State.reg8]
  | _ => rfl

/-- Writing a register leaves every other one, and an index half the other half. -/
theorem State.reg8_setReg8_other {r q : Reg8} (h : q ≠ r) (v : Byte) (s : State) :
    (s.setReg8 r v).reg8 q = s.reg8 q := by
  cases r with
  | ixh | ixl | iyh | iyl => cases q <;> simp_all [State.setReg8, State.reg8]
  | _ => cases q <;> trivial

theorem State.reg8_setReg8 (s : State) (r q : Reg8) (v : Byte) :
    (s.setReg8 r v).reg8 q = if q = r then v else s.reg8 q := by
  split
  · subst q
    exact s.reg8_setReg8_same r v
  · exact State.reg8_setReg8_other ‹_› v s

/-! ### Pairs (rule R23) -/

@[simp] theorem State.setAF_af (w : Word) (s : State) : (s.setAF w).af = w := by
  simp [State.af]

theorem State.reg16_setReg16_same (s : State) (r : Reg16) (w : Word) : (s.setReg16 r w).reg16 r = w := by
  cases r with
  | bc => exact s.setBC_bc w
  | de => exact s.setDE_de w
  | hl => exact s.setHL_hl w
  | af => exact s.setAF_af w
  | sp | ix | iy => rfl

/-- The first byte of a pair is the more significant. -/
theorem joinBytes_toNat_highFirst (hi lo : Byte) : (joinBytes hi lo).toNat = 256 * hi.toNat + lo.toNat := by
  rw [joinBytes_toNat, Nat.mul_comm]

/-- A word is its two bytes. -/
theorem word_toNat_bytes (w : Word) : w.toNat = 256 * (hiByte w).toNat + (loByte w).toNat := by
  rw [← joinBytes_toNat_highFirst, joinBytes_hi_lo]

/-- Settles O7, from the rules for registers, for the flag byte and for words of two bytes. -/
theorem registersPairsAndFlagByteAgree : Obligations.RegistersPairsAndFlagByteAgree :=
  ⟨State.reg8_setReg8, State.reg16_setReg16_same,
    fun _ => ⟨joinBytes_toNat_highFirst _ _, joinBytes_toNat_highFirst _ _, joinBytes_toNat_highFirst _ _,
      joinBytes_toNat_highFirst _ _, word_toNat_bytes _, word_toNat_bytes _⟩,
    fun f => ⟨f.ofByte_toByte, f.toByte_toNat⟩, Flags.toByte_ofByte⟩

end Sys2Proof.Machine
end

section
/-! SUPPORT. The memory map and what is not RAM: no step changes them (20_memory.md rules R61, R63). -/

namespace Sys2Proof.Machine

/-- From `s` to `t` the memory map and every byte that is not RAM have stayed. -/
structure State.KeepsReadOnly (s t : State) : Prop where
  memMap : t.memMap = s.memMap
  readOnly : ∀ addr, s.kindAt addr ≠ .ram → t.peek addr = s.peek addr

theorem State.KeepsReadOnly.trans {s t u : State} (h : s.KeepsReadOnly t) (k : t.KeepsReadOnly u) :
    s.KeepsReadOnly u where
  memMap := k.memMap.trans h.memMap
  readOnly addr hk :=
    (k.readOnly addr (by rwa [State.kindAt_congr h.memMap])).trans (h.readOnly addr hk)

/-- What leaves the whole of memory keeps it. -/
theorem State.KeepsReadOnly.of_mem {s t : State} (hm : t.mem = s.mem) (hk : t.memMap = s.memMap) :
    s.KeepsReadOnly t := ⟨hk, fun addr _ => State.peek_congr hm addr⟩

theorem State.Untouched.keepsReadOnly {s t : State} (h : s.Untouched t) : s.KeepsReadOnly t := ⟨h.memMap, h.readOnly⟩

/-- Every instruction keeps it: the ten that reach the hidden state store nothing. -/
theorem exec_keepsReadOnly {i : Instr} {s t : State} (h : exec i s = .next t) : s.KeepsReadOnly t := by
  rcases exec_cases h with hk | hk
  · exact hk.keepsReadOnly
  · cases hk with
    | exAF | exx | di | ei | halt | im0 | im1 | im2 => exact .of_mem rfl rfl
    | reti | retn => exact s.pop16_untouched.keepsReadOnly.trans (.of_mem rfl rfl)

/-- Every step keeps it: a reset leaves memory, and an acceptance, an idle step and the fetch of an instruction start
from the memory and the map of `s`. -/
theorem step_keepsReadOnly {s t : State} (h : step s = .next t) : s.KeepsReadOnly t := by
  cases step_outcome h with
  | reset _ state => exact state ▸ .of_mem rfl rfl
  | nmi left | interrupt left | idle left => exact ⟨left.memMap, left.readOnly⟩
  | instruction runs decoded fetched executed timed =>
    have boundary : s.KeepsReadOnly s.atFetch := .of_mem rfl rfl
    exact ((boundary.trans fetched.keepsReadOnly).trans (exec_keepsReadOnly executed)).trans timed.keepsReadOnly

/-- Settles O58, by the outcomes of a step. -/
theorem noStepWritesReadOnlyMemory : Obligations.NoStepWritesReadOnlyMemory := fun _ _ h =>
  ⟨(step_keepsReadOnly h).memMap, (step_keepsReadOnly h).readOnly⟩

end Sys2Proof.Machine
end

section
/-! SUPPORT. Two canonical memories that read alike are equal, so the order of two stores at different addresses does
not show in memory (20_memory.md rules R61, R63, R66). -/

namespace Sys2Proof.Machine

/-- What is listed lies at or above the bound. -/
theorem Memory.least_le_of_listed {m : Memory} {least addr : Nat} (h : Memory.wfFrom least m = true)
    (hr : Memory.read m addr ≠ Memory.unlisted) : least ≤ addr :=
  Nat.le_of_not_lt fun hlt => hr (Memory.read_below h hlt)

@[simp] theorem Memory.read_head (k : Nat) (v : Byte) (rest : Memory) : Memory.read ((k, v) :: rest) k = v := if_pos rfl

/-- The reads of a canonical memory without its first entry. -/
theorem Memory.read_tail {k : Nat} {rest : Memory} (h : Memory.wfFrom (k + 1) rest = true) (v : Byte) (addr : Nat) :
    Memory.read rest addr = if k = addr then Memory.unlisted else Memory.read ((k, v) :: rest) addr := by
  split
  · exact Memory.read_below h (by omega)
  · exact (if_neg ‹_›).symm

/-- The canonical form is one: memories in it that read alike are equal. -/
theorem Memory.eq_of_read {m n : Memory} {least : Nat} (hm : Memory.wfFrom least m = true)
    (hn : Memory.wfFrom least n = true) (hr : ∀ addr, Memory.read m addr = Memory.read n addr) : m = n := by
  induction m generalizing least n with
  | nil =>
    cases n with
    | nil => rfl
    | cons cell rest =>
      obtain ⟨k, v⟩ := cell
      obtain ⟨-, -, hv, -⟩ := Memory.wfFrom_cons.1 hn
      exact absurd (by simpa using (hr k).symm) hv
  | cons cell rest ih =>
    obtain ⟨k, v⟩ := cell
    obtain ⟨-, hk, hv, hrest⟩ := Memory.wfFrom_cons.1 hm
    cases n with
    | nil => exact absurd (by simpa using hr k) hv
    | cons cell' rest' =>
      obtain ⟨k', v'⟩ := cell'
      obtain ⟨-, hk', hv', hrest'⟩ := Memory.wfFrom_cons.1 hn
      have hle : k' ≤ k := Memory.least_le_of_listed (Memory.wfFrom_cons.2 ⟨le_rfl, hk', hv', hrest'⟩)
        (by rw [← hr k, Memory.read_head]; exact hv)
      have hge : k ≤ k' := Memory.least_le_of_listed (Memory.wfFrom_cons.2 ⟨le_rfl, hk, hv, hrest⟩)
        (by rw [hr k', Memory.read_head]; exact hv')
      obtain rfl : k = k' := Nat.le_antisymm hge hle
      obtain rfl : v = v' := by simpa using hr k
      rw [ih hrest hrest' fun addr => by rw [Memory.read_tail hrest v, Memory.read_tail hrest' v, hr addr]]

/-- Writes at different addresses commute. -/
theorem Memory.write_comm {m : Memory} (h : Memory.wf m = true) {a b : Word} (hne : a ≠ b) (v w : Byte) :
    Memory.write (Memory.write m a.toNat v) b.toNat w = Memory.write (Memory.write m b.toNat w) a.toNat v := by
  have hab : a.toNat ≠ b.toNat := fun he => hne (BitVec.eq_of_toNat_eq he)
  have hwa := Memory.wf_write h a v
  have hwb := Memory.wf_write h b w
  refine Memory.eq_of_read (Memory.wf_write hwa b w) (Memory.wf_write hwb a v) fun addr => ?_
  by_cases ha : addr = a.toNat
  · subst ha
    rw [Memory.read_write_other hab, Memory.read_write_same h, Memory.read_write_same hwb]
  · by_cases hb : addr = b.toNat
    · subst hb
      rw [Memory.read_write_same hwa, Memory.read_write_other hab.symm, Memory.read_write_same h]
    · simp only [Memory.read_write_other ha, Memory.read_write_other hb]

end Sys2Proof.Machine
end

section
/-! SUPPORT. Byte and word accesses by the kind of memory they meet, and the stack on top of them (20_memory.md rules
R62, R63, R65, R66; 45_exchange_stack.md rules R266, R267). -/

namespace Sys2Proof.Machine

/-! ### Bytes (rules R62, R63) -/

/-- A read that the platform answers: the free value, recorded. -/
theorem State.readByte_of_platform {s : State} {addr : Word} (h : s.kindAt addr = .unbacked ∨ s.kindAt addr = .device) :
    s.readByte addr = (Config.platformByte addr s.history,
      { s with history := .memRead addr (Config.platformByte addr s.history) :: s.history }) := by
  rcases s.readByte_cases addr with ⟨hk, -⟩ | ⟨-, hr⟩
  · rcases h with h | h <;> simp [h] at hk
  · exact hr

theorem State.writeByte_of_ram {s : State} {addr : Word} (h : s.kindAt addr = .ram) (v : Byte) :
    s.writeByte addr v = { s with mem := Memory.write s.mem addr.toNat v } := by
  simp only [State.writeByte, h]

theorem State.writeByte_of_ignored {s : State} {addr : Word} (h : s.kindAt addr = .rom ∨ s.kindAt addr = .unbacked)
    (v : Byte) : s.writeByte addr v = s := by
  rcases h with h | h <;> simp only [State.writeByte, h]

theorem State.writeByte_of_device {s : State} {addr : Word} (h : s.kindAt addr = .device) (v : Byte) :
    s.writeByte addr v = { s with history := .memWrite addr v :: s.history } := by
  simp only [State.writeByte, h, State.logEvent]

/-- A byte written to RAM is read back, and the read changes nothing. -/
theorem State.readByte_writeByte {s : State} {addr : Word} (hw : Memory.wf s.mem = true) (h : s.kindAt addr = .ram)
    (v : Byte) : (s.writeByte addr v).readByte addr = (v, s.writeByte addr v) := by
  have hk : (s.writeByte addr v).kindAt addr = .ram := (State.kindAt_congr (State.writeByte_memMap addr v s) addr).trans h
  rw [State.readByte_of_held (.inl hk), State.peek_writeByte_same hw h]

/-! ### Words (rules R65, R66) -/

/-- A word read from RAM or ROM is two bytes held, and changes nothing. -/
theorem State.readWord_of_held {s : State} {addr : Word} (h : s.kindAt addr = .ram ∨ s.kindAt addr = .rom)
    (h' : s.kindAt (addr + 1) = .ram ∨ s.kindAt (addr + 1) = .rom) :
    s.readWord addr = (joinBytes (s.peek (addr + 1)) (s.peek addr), s) := by
  simp only [State.readWord, State.readByte_of_held h, State.readByte_of_held h']

/-- A word stored in RAM is read back, and the read changes nothing. -/
theorem StoresWord.readWord {s t : State} {addr w : Word} (hst : StoresWord s t addr w) (hmap : t.memMap = s.memMap)
    (h : s.kindAt addr = .ram) (h' : s.kindAt (addr + 1) = .ram) : t.readWord addr = (w, t) := by
  obtain ⟨⟨hlow, -⟩, ⟨hhigh, -⟩, -⟩ := hst
  have hkind := State.kindAt_congr hmap
  rw [State.readWord_of_held (.inl ((hkind _).trans h)) (.inl ((hkind _).trans h')), hlow h, hhigh h', joinBytes_hi_lo]

/-- A word stored in RAM, its bytes as numbers: the less significant at the lower address. -/
theorem StoresWord.bytes {s t : State} {addr w : Word} (hst : StoresWord s t addr w)
    (h : s.kindAt addr = .ram) (h' : s.kindAt (addr + 1) = .ram) :
    (t.peek addr).toNat = w.toNat % 256 ∧ (t.peek (addr + 1)).toNat = w.toNat / 256 := by
  obtain ⟨⟨hlow, -⟩, ⟨hhigh, -⟩, -⟩ := hst
  rw [hlow h, hhigh h']
  exact ⟨loByte_toNat w, hiByte_toNat w⟩

/-- Byte writes to different addresses of RAM commute. -/
theorem State.writeByte_comm {s : State} (hw : Memory.wf s.mem = true) {a b : Word} (hne : a ≠ b)
    (ha : s.kindAt a = .ram) (hb : s.kindAt b = .ram) (v w : Byte) :
    (s.writeByte a v).writeByte b w = (s.writeByte b w).writeByte a v := by
  have hkb : (s.writeByte a v).kindAt b = .ram := (State.kindAt_congr (State.writeByte_memMap a v s) b).trans hb
  have hka : (s.writeByte b w).kindAt a = .ram := (State.kindAt_congr (State.writeByte_memMap b w s) a).trans ha
  rw [State.writeByte_of_ram hkb, State.writeByte_of_ram hka, State.writeByte_of_ram ha, State.writeByte_of_ram hb]
  simp only [Memory.write_comm hw hne]

/-- In RAM the stack's word store is the other one. -/
theorem State.writeWordHighFirst_eq_writeWord {s : State} (hw : Memory.wf s.mem = true) {addr : Word}
    (h : s.kindAt addr = .ram) (h' : s.kindAt (addr + 1) = .ram) (w : Word) :
    s.writeWordHighFirst addr w = s.writeWord addr w :=
  State.writeByte_comm hw (by simp) h' h (hiByte w) (loByte w)

/-! ### The stack (rules R266, R267) -/

theorem State.push16_stores {s : State} (hw : Memory.wf s.mem = true) (w : Word) :
    StoresWord s (s.push16 w) (s.sp - 2) w :=
  (State.push16_pushes hw w 0).2.congr rfl rfl rfl

/-- What is pushed into RAM is popped, and `SP` is back. -/
theorem State.pop16_push16 {s : State} (hw : Memory.wf s.mem = true) (h : s.kindAt (s.sp - 2) = .ram)
    (h' : s.kindAt (s.sp - 1) = .ram) (w : Word) : (s.push16 w).pop16 = (w, { s.push16 w with sp := s.sp }) := by
  have hnext : s.sp - 2 + 1 = s.sp - 1 := by bv_omega
  have hread : (s.push16 w).readWord (s.sp - 2) = (w, s.push16 w) :=
    (State.push16_stores hw w).readWord (State.push16_memMap w s) h (hnext ▸ h')
  rw [State.pop16_state, State.push16_sp, hread, BitVec.sub_add_cancel]

/-- Settles O8, from the rules for bytes, for words and for the stack. -/
theorem memoryReadsWhatWasWritten : Obligations.MemoryReadsWhatWasWritten := fun s addr v w hw =>
  ⟨fun h => State.readByte_writeByte hw h v,
    State.readByte_of_held,
    State.readByte_of_platform,
    fun h => State.writeByte_of_ignored h v,
    fun h => State.writeByte_of_device h v,
    fun _ hne => State.peek_writeByte_other hne v s,
    fun h h' =>
      have stored := (State.two_writes_store hw addr w).1
      ⟨stored.readWord (State.writeWord_memMap addr w s) h h', (stored.bytes h h').1, (stored.bytes h h').2,
        State.writeWordHighFirst_eq_writeWord hw h h' w⟩,
    fun h h' => ⟨State.push16_sp w s, State.pop16_push16 hw h h' w⟩⟩

end Sys2Proof.Machine
end

section
/-! SUPPORT. The states that the inputs and outputs leave, in the words of the claims (20_memory.md rule R64; 46_io.md
rules R280 to R282, R290 to R293). -/

namespace Sys2Proof.Machine

/-- Moving past an instruction, in the words of the claims. -/
theorem State.advance_eq {bytes : List Byte} {len : Nat} (h : bytes.length = len) (s : State) :
    s.advance len = { s with pc := s.past bytes } := by
  rw [State.past_eq, h]
  rfl

/-- Writing the flags of a byte whose `P/V` is its parity. -/
theorem State.writeFlags_szp (v : Byte) (h : Bool) (s : State) :
    s.writeFlags (szpFlags v h) = { s with f := parityFlags v h s.f.c s.draws, draws := s.draws + 1 } := by
  rw [← szpFlags_eq v h s.f.c s.f s.draws]
  rfl

/-! ### Inputs -/

theorem State.inAImm_eq (n : Byte) (s : State) :
    let v := Config.ioByte (portOf s.a n) s.history
    s.inAImm n = { s with a := v, history := .ioRead (portOf s.a n) v :: s.history, pc := s.past [0xDB, n] } := by
  rw [portOf_eq, State.past_eq]
  rfl

/-- `IN (C)`: the port is read, the flags written, and `PC` moved. -/
theorem State.inFlags_eq {bytes : List Byte} (hlen : bytes.length = 2) (s : State) :
    let v := Config.ioByte (portOf s.b s.c) s.history
    s.inFlags = { s with
      f := parityFlags v false s.f.c s.draws
      draws := s.draws + 1
      history := .ioRead (portOf s.b s.c) v :: s.history
      pc := s.past bytes } := by
  rw [portOf_eq, State.inFlags, State.writeFlags_szp, State.advance_eq hlen]
  rfl

/-- `IN r,(C)` is `IN (C)` with the byte loaded too. -/
theorem State.inReg_eq_inFlags (r : Reg8) (s : State) :
    s.inReg r = s.inFlags.setReg8 r (Config.ioByte s.bc s.history) := by
  cases r <;> rfl

/-- Settles O39: `IN r,(C)` and `IN (C)` do the same to everything but the register. -/
theorem inputs : Obligations.Inputs := by
  refine fun n s => ⟨⟨rfl, congrArg Host.Outcome.next (s.inAImm_eq n)⟩, fun x hx => ?_,
    rfl, congrArg Host.Outcome.next (State.inFlags_eq rfl s)⟩
  obtain ⟨hencode, hexec, hlen⟩ := inputForms_exec x hx
  refine ⟨hencode, (hexec s).trans ?_⟩
  rw [State.inReg_eq_inFlags, State.inFlags_eq hlen, State.bc, ← portOf_eq]
  rfl

/-! ### Outputs -/

theorem State.outImm_eq (n : Byte) (s : State) :
    s.outImm n =
      { s with history := .ioWrite (portOf s.a n) s.a :: s.history, pc := s.past [0xD3, n] } := by
  rw [portOf_eq, State.past_eq]
  rfl

theorem State.outPort_eq {bytes : List Byte} (hlen : bytes.length = 2) (v : Byte) (s : State) :
    s.outPort v = { s with history := .ioWrite (portOf s.b s.c) v :: s.history, pc := s.past bytes } := by
  rw [portOf_eq, State.outPort, State.advance_eq hlen]
  rfl

/-- Settles O40: every form hands one byte to one port and moves past itself. -/
theorem outputs : Obligations.Outputs := by
  refine fun n s => ⟨⟨rfl, congrArg Host.Outcome.next (s.outImm_eq n)⟩, fun x hx => ?_⟩
  obtain ⟨hencode, hexec, hlen⟩ := outputForms_exec x hx
  exact ⟨hencode, (hexec s).trans (congrArg Host.Outcome.next (State.outPort_eq hlen (x.operand s) s))⟩

end Sys2Proof.Machine
end

section
/-! SUPPORT. The opcode pages against the encoder and against the lists of assigned opcodes (30_encoding.md rules R90 to
R93, R107 to R111): what decodes is an encoding, and every opcode that the rules list decodes. -/

namespace Sys2Proof

/-! ### The pages list encodings (rules R91, R93) -/

/-- The values of a function of a byte, laid out as rule R107 lays out a page: a row for each high hex digit. -/
def byteGrid {α : Type} (f : Byte → α) : List (List α) :=
  (List.range 16).map fun row => (List.range 16).map fun col => f (BitVec.ofNat 8 (16 * row + col))

theorem eq_of_byteGrid_eq {α : Type} {f g : Byte → α} (h : byteGrid f = byteGrid g) (op : Byte) : f op = g op := by
  have hrow := List.map_inj_left.1 h (op.toNat / 16) (List.mem_range.2 (by omega))
  have hcell := List.map_inj_left.1 hrow (op.toNat % 16) (List.mem_range.2 (by omega))
  rwa [Nat.div_add_mod, BitVec.ofNat_toNat, BitVec.setWidth_eq] at hcell

/-- The instruction that a cell gives for the operands `d`, `n` and `nn`, and the operand bytes behind its opcode. -/
def Cell.reading (d n : Byte) (nn : Word) : Cell → Option (Instr × List Byte)
  | .hole => none
  | .op i => some (i, [])
  | .byte mk => some (mk n, [n])
  | .word mk => some (mk nn, [loByte nn, hiByte nn])
  | .twoBytes mk => some (mk d n, [d, n])
  | .disp mk => some (mk d, [])

/-- What finishes from a cell is a reading of it, with the operand bytes that were taken. -/
theorem Cell.reading_of_finish {cell : Cell} {error : DecodeError} {rest more : List Byte} {i : Instr}
    (h : cell.finish error rest = .ok (i, more)) :
    ∃ d n nn operands, cell.reading d n nn = some (i, operands) ∧ operands ++ more = rest := by
  cases cell with
  | hole => cases h
  | disp mk => cases h
  | op i => cases h; exact ⟨0, 0, 0, [], rfl, rfl⟩
  | byte mk =>
    match rest, h with
    | n :: _, h => cases h; exact ⟨0, n, 0, [n], rfl, rfl⟩
  | word mk =>
    match rest, h with
    | lo :: hi :: _, h => cases h; exact ⟨0, 0, joinBytes hi lo, [lo, hi], by simp [Cell.reading], rfl⟩
  | twoBytes mk =>
    match rest, h with
    | d :: n :: _, h => cases h; exact ⟨d, n, 0, [d, n], rfl, rfl⟩

/-- Every instruction of the page is well formed, and its encoding is the bytes that lead to the page, the opcode of its
cell, and its operand bytes. What leads to a page may hold the displacement (rule R111). -/
def Page.ListsEncodings (page : Page) (lead : Byte → List Byte) : Prop :=
  ∀ d n nn op, ((page.cellAt op).reading d n nn).map (fun r => (r.1.wellFormed, encode r.1)) =
    ((page.cellAt op).reading d n nn).map fun r => (true, lead d ++ op :: r.2)

theorem mainPage_listsEncodings : mainPage.ListsEncodings fun _ => [] := fun _ _ _ => eq_of_byteGrid_eq (by rfl)

theorem cbPage_listsEncodings : cbPage.ListsEncodings fun _ => [0xCB] := fun _ _ _ => eq_of_byteGrid_eq (by rfl)

theorem edPage_listsEncodings : edPage.ListsEncodings fun _ => [0xED] := fun _ _ _ => eq_of_byteGrid_eq (by rfl)

theorem ddPage_listsEncodings : ddPage.ListsEncodings fun _ => [0xDD] := fun _ _ _ => eq_of_byteGrid_eq (by rfl)

theorem fdPage_listsEncodings : fdPage.ListsEncodings fun _ => [0xFD] := fun _ _ _ => eq_of_byteGrid_eq (by rfl)

theorem ddcbPage_listsEncodings : ddcbPage.ListsEncodings fun d => [0xDD, 0xCB, d] :=
  fun _ _ _ => eq_of_byteGrid_eq (by rfl)

theorem fdcbPage_listsEncodings : fdcbPage.ListsEncodings fun d => [0xFD, 0xCB, d] :=
  fun _ _ _ => eq_of_byteGrid_eq (by rfl)

theorem Page.ListsEncodings.encode_of_reading {page : Page} {lead : Byte → List Byte} (hpage : page.ListsEncodings lead)
    {d n op : Byte} {nn : Word} {i : Instr} {operands : List Byte}
    (h : (page.cellAt op).reading d n nn = some (i, operands)) :
    i.wellFormed = true ∧ encode i = lead d ++ op :: operands := by
  simpa [h] using hpage d n nn op

/-! ### What decodes is an encoding (rules R91, R113) -/

/-- From a cell of a page that the bytes `lead` select. -/
theorem Page.ListsEncodings.encode_of_finish {page : Page} {lead : List Byte} (hpage : page.ListsEncodings fun _ => lead)
    {op : Byte} {error : DecodeError} {rest more : List Byte} {i : Instr}
    (h : (page.cellAt op).finish error rest = .ok (i, more)) :
    i.wellFormed = true ∧ encode i ++ more = lead ++ op :: rest := by
  obtain ⟨d, n, nn, operands, hread, rfl⟩ := Cell.reading_of_finish h
  obtain ⟨hwf, hencode⟩ := hpage.encode_of_reading hread
  exact ⟨hwf, by simp [hencode]⟩

/-- Behind `CB` and `ED`. -/
theorem encode_of_decodePaged {page : Page} {b0 : Byte} (hpage : page.ListsEncodings fun _ => [b0])
    {error : DecodeError} {bytes more : List Byte} {i : Instr} (h : decodePaged page error bytes = .ok (i, more)) :
    i.wellFormed = true ∧ encode i ++ more = b0 :: bytes := by
  match bytes, h with
  | _ :: _, h => exact hpage.encode_of_finish h

/-- Behind `DD CB` and `FD CB`. -/
theorem encode_of_decodeIndexBit {page : Page} {b0 : Byte} (hpage : page.ListsEncodings fun d => [b0, 0xCB, d])
    {bytes more : List Byte} {i : Instr} (h : decodeIndexBit page bytes = .ok (i, more)) :
    i.wellFormed = true ∧ encode i ++ more = b0 :: 0xCB :: bytes := by
  unfold decodeIndexBit at h
  split at h
  next d op rest =>
    split at h
    next mk hcell =>
      cases h
      have hread : (page.cellAt op).reading d 0 0 = some (mk d, []) := by rw [hcell]; rfl
      obtain ⟨hwf, hencode⟩ := hpage.encode_of_reading hread
      exact ⟨hwf, by simp [hencode]⟩
    next => cases h
  next => cases h

/-- Behind `DD` and `FD`. -/
theorem encode_of_decodeIndex {page bitPage : Page} {b0 : Byte} (hpage : page.ListsEncodings fun _ => [b0])
    (hbit : bitPage.ListsEncodings fun d => [b0, 0xCB, d]) {bytes more : List Byte} {i : Instr}
    (h : decodeIndex page bitPage bytes = .ok (i, more)) : i.wellFormed = true ∧ encode i ++ more = b0 :: bytes := by
  match bytes, h with
  | op :: rest, h =>
    by_cases hcb : op = 0xCB
    · subst hcb
      exact encode_of_decodeIndexBit hbit h
    · rw [decodeIndex_of_ne page bitPage rest hcb] at h
      exact encode_of_decodePaged hpage h

/-- Settles O1: the round trips of the constructors, collected. -/
theorem decodingAnEncodingGivesTheInstruction : Obligations.DecodingAnEncodingGivesTheInstruction := decode_encode

/-- Settles O2, along the branches of the decoder: each page lists encodings, and what is read from it is one. -/
theorem decodedBytesAreTheEncoding : Obligations.DecodedBytesAreTheEncoding := by
  intro bytes more i h
  match bytes, h with
  | b0 :: rest, h =>
    cases hp : isPrefixByte b0 with
    | false =>
      rw [decode_unprefixed _ hp] at h
      exact mainPage_listsEncodings.encode_of_finish h
    | true =>
      rcases isPrefixByte_iff.1 hp with rfl | rfl | rfl | rfl
      · exact encode_of_decodePaged cbPage_listsEncodings h
      · exact encode_of_decodePaged edPage_listsEncodings h
      · exact encode_of_decodeIndex ddPage_listsEncodings ddcbPage_listsEncodings h
      · exact encode_of_decodeIndex fdPage_listsEncodings fdcbPage_listsEncodings h

/-! ### Lengths (rules R91, R92) -/

theorem lengthFromBytes_bounds (b0 b1 : Byte) : 1 ≤ lengthFromBytes b0 b1 ∧ lengthFromBytes b0 b1 ≤ 4 := by
  unfold lengthFromBytes
  split_ifs <;> decide

/-- Settles O3: what an encoding gives up to its instruction is the encoding, and as many bytes as the leading two
say. -/
theorem leadingBytesDecideTheLength : Obligations.LeadingBytesDecideTheLength := by
  intro i b0 b1 rest more hwf hbytes
  have hd := decode_encode i hwf more
  rw [hbytes] at hd
  have hsaid := length_of_decode hd
  have hall := congrArg List.length hbytes
  rw [List.length_append, List.length_cons, List.length_cons] at hall
  have hlen : (encode i).length = lengthFromBytes b0 b1 := by omega
  rw [hlen]
  exact ⟨rfl, lengthFromBytes_bounds b0 b1⟩

/-! ### Which opcodes are assigned (rules R107 to R111) -/

theorem mainPage_assigned : ∀ op : BitVec 8, (mainPage.cellAt op).operandBytes.isSome = !isPrefixByte op := by decide

theorem cbPage_assigned : ∀ op : BitVec 8, (cbPage.cellAt op).operandBytes = some 0 := by decide

theorem edPage_assigned : ∀ op : BitVec 8,
    (edPage.cellAt op).operandBytes.isSome = true ↔ op ∈ Machine.assignedED := by decide

theorem ddPage_assigned : ∀ op : BitVec 8,
    (ddPage.cellAt op).operandBytes.isSome = true ↔ op ∈ Machine.assignedIndex := by decide

theorem fdPage_assigned : ∀ op : BitVec 8,
    (fdPage.cellAt op).operandBytes.isSome = true ↔ op ∈ Machine.assignedIndex := by decide

/-- Whether a cell is an instruction behind `DD CB d` or `FD CB d`. -/
def Cell.isDisp : Cell → Bool
  | .disp _ => true
  | _ => false

theorem ddcbPage_assigned : ∀ op : BitVec 8, (ddcbPage.cellAt op).isDisp = (op.toNat % 8 == 6) := by decide

theorem fdcbPage_assigned : ∀ op : BitVec 8, (fdcbPage.cellAt op).isDisp = (op.toNat % 8 == 6) := by decide

/-! ### Assigned opcodes decode, and no others (rule R118) -/

/-- A cell that takes operand bytes finishes when there are as many. -/
theorem Cell.finish_of_operandBytes {cell : Cell} {n : Nat} (h : cell.operandBytes = some n) (error : DecodeError)
    {rest : List Byte} (hn : n ≤ rest.length) : ∃ i more, cell.finish error rest = .ok (i, more) := by
  cases cell with
  | hole => cases h
  | disp mk => cases h
  | op i => exact ⟨i, rest, rfl⟩
  | byte mk =>
    cases h
    match rest, hn with
    | n :: more, _ => exact ⟨mk n, more, rfl⟩
  | word mk =>
    cases h
    match rest, hn with
    | lo :: hi :: more, _ => exact ⟨mk (joinBytes hi lo), more, rfl⟩
  | twoBytes mk =>
    cases h
    match rest, hn with
    | d :: n :: more, _ => exact ⟨mk d n, more, rfl⟩

theorem Cell.operandBytes_le_two {cell : Cell} {n : Nat} (h : cell.operandBytes = some n) : n ≤ 2 := by
  cases cell <;> cases h <;> decide

/-- A cell that is no instruction here is rejected with the page's own error. -/
theorem Cell.finish_of_unassigned {cell : Cell} (h : ¬ cell.operandBytes.isSome = true) (error : DecodeError)
    (rest : List Byte) : cell.finish error rest = .error error := by
  cases cell with
  | hole | disp _ => rfl
  | op _ | byte _ | word _ | twoBytes _ => exact absurd rfl h

theorem decodeIndexBit_of_unassigned {page : Page} {op : Byte} (h : (page.cellAt op).isDisp = false) (d : Byte)
    (rest : List Byte) : decodeIndexBit page (d :: op :: rest) = .error .unassignedIndexBit := by
  simp only [decodeIndexBit]
  split
  next mk hcell => simp [hcell, Cell.isDisp] at h
  next => rfl

/-- Settles O5: no cell behind `CB` is a hole, and those of the main page are the prefixes. -/
theorem mainAndBitPagesHaveNoHole : Obligations.MainAndBitPagesHaveNoHole := by
  refine fun op x y rest => ⟨Cell.finish_of_operandBytes (cbPage_assigned op) .unassigned (Nat.zero_le _),
    fun hcb hed hdd hfd => ?_⟩
  have hp : isPrefixByte op = false := isPrefixByte_eq_false_iff.2 ⟨hcb, hed, hdd, hfd⟩
  obtain ⟨n, hn⟩ := Option.isSome_iff_exists.1 ((mainPage_assigned op).trans (by rw [hp]; rfl))
  rw [decode_unprefixed _ hp]
  exact Cell.finish_of_operandBytes hn .unassigned ((Cell.operandBytes_le_two hn).trans (by simp))

/-- Settles O6, by computation. -/
theorem spelledOutWordsDecode : Obligations.SpelledOutWordsDecode :=
  ⟨rfl, rfl, rfl, rfl, rfl, rfl, rfl, rfl, rfl, rfl, rfl, rfl, rfl, rfl⟩

end Sys2Proof
end

section
/-! SUPPORT. What a step refuses: bytes in memory that no row of the opcode table has, and nothing else but a supplied
instruction in mode 0 (30_encoding.md rule R118; 60_exceptions.md rules R400, R407). -/

namespace Sys2Proof.Machine

/-! ### Unassigned bytes (rule R118) -/

/-- Two bytes that say there are no more. -/
theorem leadingBytesSayAll_of_two {b0 b1 : Byte} (hp : isPrefixByte b0 = true) (h : lengthFromBytes b0 b1 = 2) :
    LeadingBytesSayAll [b0, b1] := .longer (lengthFromBytes_prefixed b0 hp) h.symm

theorem length_of_unassignedED : ∀ op : BitVec 8, op ∉ assignedED → lengthFromBytes 0xED op = 2 := by decide

theorem length_of_unassignedIndex : ∀ op : BitVec 8, op ∉ assignedIndex → op ≠ 0xCB →
    lengthFromBytes 0xDD op = 2 ∧ lengthFromBytes 0xFD op = 2 := by decide

theorem decode_of_unassignedED {op : Byte} (h : op ∉ assignedED) : decode [0xED, op] = .error .unassignedED :=
  Cell.finish_of_unassigned (mt (edPage_assigned op).1 h) .unassignedED []

theorem decode_of_unassignedIndex {x op : Byte} (hx : x = 0xDD ∨ x = 0xFD) (h : op ∉ assignedIndex) (hcb : op ≠ 0xCB) :
    decode [x, op] = .error .unassignedIndex := by
  rcases hx with rfl | rfl
  · exact (decodeIndex_of_ne ddPage ddcbPage [] hcb).trans
      (Cell.finish_of_unassigned (mt (ddPage_assigned op).1 h) .unassignedIndex [])
  · exact (decodeIndex_of_ne fdPage fdcbPage [] hcb).trans
      (Cell.finish_of_unassigned (mt (fdPage_assigned op).1 h) .unassignedIndex [])

theorem decode_of_unassignedIndexBit {x op : Byte} (hx : x = 0xDD ∨ x = 0xFD) (h : op.toNat % 8 ≠ 6) (d : Byte) :
    decode [x, 0xCB, d, op] = .error .unassignedIndexBit := by
  have hop : (op.toNat % 8 == 6) = false := beq_eq_false_iff_ne.2 h
  rcases hx with rfl | rfl
  · exact decodeIndexBit_of_unassigned ((ddcbPage_assigned op).trans hop) d []
  · exact decodeIndexBit_of_unassigned ((fdcbPage_assigned op).trans hop) d []

/-- Bytes held at `PC`, as many as the leading ones say, that do not decode are refused with their address. -/
theorem step_refused_of_holds {s : State} {bytes : List Byte} {error : DecodeError} (hs : s.RunsNext)
    (hsaid : LeadingBytesSayAll bytes) (hh : s.Holds s.pc bytes) (hf : s.Fetchable s.pc bytes.length)
    (hd : decode bytes = .error error) : step s = .refused (.unassignedEncoding error s.pc bytes) := by
  have hfetch : s.atFetch.fetch = (bytes, s.atFetch) := State.fetch_of_holds hsaid hh hf
  rw [step_of_runsNext hs, State.runInstruction]
  simp only [hfetch, hd]
  rfl

theorem State.Fetchable.mono {s : State} {addr : Word} {m n : Nat} (h : s.Fetchable addr n) (hmn : m ≤ n) :
    s.Fetchable addr m := fun k hk => h k (hk.trans_le hmn)

/-- Settles O4: in each clause the leading bytes say the length of what is held, and the page has no cell for it. -/
theorem unassignedBytesAreRefused : Obligations.UnassignedBytesAreRefused := by
  intro s x hs hf hx
  have hprefix : isPrefixByte x = true := by rcases hx with rfl | rfl <;> rfl
  refine ⟨fun op hop hh => ?_, fun op hop hcb hh => ?_, fun d op hop hh => ?_⟩
  · have hsaid := leadingBytesSayAll_of_two (b0 := 0xED) rfl (length_of_unassignedED op hop)
    exact step_refused_of_holds hs hsaid hh (hf.mono (by simp)) (decode_of_unassignedED hop)
  · obtain ⟨hdd, hfd⟩ := length_of_unassignedIndex op hop hcb
    have hlen : lengthFromBytes x op = 2 := by rcases hx with rfl | rfl <;> assumption
    have hsaid := leadingBytesSayAll_of_two hprefix hlen
    exact step_refused_of_holds hs hsaid hh (hf.mono (by simp)) (decode_of_unassignedIndex hx hop hcb)
  · have hlen : lengthFromBytes x 0xCB = 4 := by rcases hx with rfl | rfl <;> rfl
    have hsaid : LeadingBytesSayAll [x, 0xCB, d, op] := .longer (lengthFromBytes_prefixed x hprefix) hlen.symm
    exact step_refused_of_holds hs hsaid hh hf (decode_of_unassignedIndexBit hx hop d)

/-! ### Every stop of a step is a refusal (rules R118, R400, R407) -/

/-- Accepting a maskable interrupt ends in a next state, or the device's byte is refused in mode 0. -/
theorem State.acceptInt_next_or_refused (data : Byte) (s : State) :
    (∃ t, s.acceptInt data = .next t) ∨
      (s.im = .mode0 ∧ s.acceptInt data = .refused (.modeZeroInstruction data)) := by
  rcases s.acceptInt_cases data with ⟨-, e⟩ | ⟨-, e⟩ | ⟨-, -, e⟩ | ⟨hm, -, e⟩
  · exact .inl ⟨_, e⟩
  · exact .inl ⟨_, e⟩
  · exact .inl ⟨_, e⟩
  · exact .inr ⟨hm, e⟩

/-- Running what is at `PC` ends in a next state, or its bytes do not decode. -/
theorem State.runInstruction_next_or_refused (s : State) :
    (∃ t, s.runInstruction = .next t) ∨
      ∃ error, s.runInstruction = .refused (.unassignedEncoding error s.pc s.fetch.1) ∧
        decode s.fetch.1 = .error error := by
  rcases s.runInstruction_cases with ⟨i, rest, -, hrun⟩ | ⟨error, hd, hrun⟩
  · obtain ⟨t, ht⟩ := exec_next i (s.fetch.2.countFetches (fetchCount s.fetch.1))
    exact .inl ⟨_, hrun.trans (State.execTimed_of_next ht)⟩
  · exact .inr ⟨error, hrun, hd⟩

/-- Settles O60, by the outcomes of a boundary: only an acceptance and an instruction can stop. -/
theorem noInstructionStops : Obligations.NoInstructionStops := by
  refine ⟨exec_next, fun s => ?_⟩
  rcases step_cases s with ⟨-, e⟩ | ⟨-, ⟨-, e⟩ | ⟨hn, ⟨hi, e⟩ | ⟨-, ⟨-, e⟩ | ⟨-, e⟩⟩⟩⟩
  · exact .inl ⟨_, e⟩
  · exact .inl ⟨_, e⟩
  · rcases (s.pastBoundary.elapse (acceptanceTStates s.im)).acceptInt_next_or_refused s.nextPins.intData with
      ⟨t, ht⟩ | ⟨hm, hr⟩
    · exact .inl ⟨t, e.trans ht⟩
    · simp only [Bool.and_eq_true] at hi
      obtain ⟨⟨hline, -⟩, -⟩ := hi
      exact .inr (.inr ⟨hm, hline, e.trans hr⟩)
  · exact .inl ⟨_, e⟩
  · rw [State.pastBoundary_of_no_nmi hn] at e
    rcases s.atFetch.runInstruction_next_or_refused with ⟨t, ht⟩ | ⟨error, hr, hd⟩
    · exact .inl ⟨t, e.trans ht⟩
    · exact .inr (.inl ⟨error, e.trans hr, hd⟩)

end Sys2Proof.Machine
end

section
/-! SUPPORT. Operations on `A` and on bytes in the words of the claims, from what their flag updates say (10_state.md
rules R45, R46; 30_encoding.md rules R115, R116). -/

namespace Sys2Proof.Machine

/-- What a form does, from its meaning as an operation and the state that the operation leaves. -/
theorem Form.does_of_eq {α : Type} {x : Form α} {s t u : State} (hencode : encode x.instr = x.bytes)
    (hexec : exec x.instr s = .next u) (h : u = t) : x.Does s t := ⟨hencode, h ▸ hexec⟩

/-- Writing the flags, from what the update says. -/
theorem State.writeFlags_of {upd : FlagUpdate} {s : State} {f : Flags}
    (h : (upd s.f (freeFlagsAt s.draws)).redrawn s.draws = f) :
    s.writeFlags upd = { s with f := f, draws := s.draws + 1 } := by
  rw [← h]
  rfl

/-- An operation on `A`, whose result and flags are functions of the operand read. -/
theorem State.operateA_eq {s : State} {upd : Byte → FlagUpdate} {flags : Byte → Flags}
    (h : ∀ v, (upd v s.f (freeFlagsAt s.draws)).redrawn s.draws = flags v) (o : Operand8) (res : Byte → Byte)
    (bytes : List Byte) :
    (State.writeFlags (upd (s.read8 o).1) { (s.read8 o).2 with a := res (s.read8 o).1 }).advance bytes.length =
      let v := s.operandRead o
      { s with a := res v.1, f := flags v.1, draws := s.draws + 1, history := v.2, pc := s.past bytes } := by
  simp only [State.read8_of_operandRead, State.past_eq, ← h]
  rfl

@[simp] theorem State.writeLocation_f (loc : Location8) (v : Byte) (s : State) : (s.writeLocation loc v).f = s.f := by
  cases loc <;> simp [State.writeLocation]

@[simp] theorem State.writeLocation_draws (loc : Location8) (v : Byte) (s : State) :
    (s.writeLocation loc v).draws = s.draws := by
  cases loc <;> simp [State.writeLocation]

@[simp] theorem State.writeLocation_pc (loc : Location8) (v : Byte) (s : State) :
    (s.writeLocation loc v).pc = s.pc := by
  cases loc <;> simp [State.writeLocation]

/-- An operation that replaces its operand and then writes the flags. -/
theorem State.replacePlace_replaces {upd : FlagUpdate} {s : State} {f : Flags} (hw : Memory.wf s.mem = true)
    (h : (upd s.f (freeFlagsAt s.draws)).redrawn s.draws = f) (p : Place8) (v : Byte) (bytes : List Byte) :
    Replaces s ((((s.readLocation (s.locate p)).2.writeLocation (s.locate p) v).writeFlags upd).advance bytes.length)
      p v f (s.draws + 1) (s.past bytes) := by
  have hreplaces := State.writeLocation_replaces hw p v f (s.draws + 1) (s.past bytes)
  rw [State.writeFlags_of (f := f) (by simpa using h)]
  rw [State.past_eq] at hreplaces ⊢
  simpa [State.advance] using hreplaces

end Sys2Proof.Machine
end

section
/-! SUPPORT. The 8-bit arithmetic: what each operation leaves, and what the flags of a comparison tell (40_arithmetic.md
rules R130 to R137). -/

namespace Sys2Proof.Machine

/-! ### Sums and differences with `A` (rules R130 to R135) -/

theorem State.addA_eq (o : Operand8) (bytes : List Byte) (s : State) :
    let v := s.operandRead o
    s.addA o bytes.length = { s with
      a := BitVec.ofNat 8 (s.a.toNat + v.1.toNat)
      f := sumFlags s.a v.1 false s.draws
      draws := s.draws + 1
      history := v.2
      pc := s.past bytes } :=
  State.operateA_eq (fun v => add8Flags_eq s.a v false s.f s.draws) o (add8 s.a · false) bytes

theorem State.adcA_eq (o : Operand8) (bytes : List Byte) (s : State) :
    let v := s.operandRead o
    s.adcA o bytes.length = { s with
      a := BitVec.ofNat 8 (s.a.toNat + v.1.toNat + s.f.c.toNat)
      f := sumFlags s.a v.1 s.f.c s.draws
      draws := s.draws + 1
      history := v.2
      pc := s.past bytes } :=
  State.operateA_eq (fun v => add8Flags_eq s.a v s.f.c s.f s.draws) o (add8 s.a · s.f.c) bytes

/-- A difference with nothing borrowed. -/
theorem sub8_no_borrow (a v : Byte) : sub8 a v false = BitVec.ofInt 8 ((a.toNat : Int) - v.toNat) :=
  congrArg (BitVec.ofInt 8) (Int.sub_zero _)

theorem State.subA_eq (o : Operand8) (bytes : List Byte) (s : State) :
    let v := s.operandRead o
    s.subA o bytes.length = { s with
      a := BitVec.ofInt 8 ((s.a.toNat : Int) - v.1.toNat)
      f := differenceFlags s.a v.1 false s.draws
      draws := s.draws + 1
      history := v.2
      pc := s.past bytes } := by
  simp only [← sub8_no_borrow]
  exact State.operateA_eq (fun v => sub8Flags_eq s.a v false s.f s.draws) o (sub8 s.a · false) bytes

theorem State.sbcA_eq (o : Operand8) (bytes : List Byte) (s : State) :
    let v := s.operandRead o
    s.sbcA o bytes.length = { s with
      a := BitVec.ofInt 8 ((s.a.toNat : Int) - v.1.toNat - s.f.c.toNat)
      f := differenceFlags s.a v.1 s.f.c s.draws
      draws := s.draws + 1
      history := v.2
      pc := s.past bytes } :=
  State.operateA_eq (fun v => sub8Flags_eq s.a v s.f.c s.f s.draws) o (sub8 s.a · s.f.c) bytes

theorem State.cpA_eq (o : Operand8) (bytes : List Byte) (s : State) :
    let v := s.operandRead o
    s.cpA o bytes.length = { s with
      f := differenceFlags s.a v.1 false s.draws
      draws := s.draws + 1
      history := v.2
      pc := s.past bytes } := by
  simp only [State.cpA, State.read8_of_operandRead, State.past_eq, ← sub8Flags_eq s.a _ false s.f]
  rfl

theorem State.negA_eq (s : State) :
    s.negA = { s with
      a := BitVec.ofInt 8 (-(s.a.toNat : Int))
      f := differenceFlags 0 s.a false s.draws
      draws := s.draws + 1
      pc := s.past [0xED, 0x44] } := by
  have hres : sub8 0 s.a false = BitVec.ofInt 8 (-(s.a.toNat : Int)) := by
    rw [sub8_no_borrow]
    exact congrArg (BitVec.ofInt 8) (Int.zero_sub _)
  rw [State.past_eq, ← hres, ← sub8Flags_eq 0 s.a false s.f]
  rfl

/-- Settles O16: every form is one of the two sums, over the operand listed for it. -/
theorem addingToTheAccumulator : Obligations.AddingToTheAccumulator := by
  refine fun n d s => ⟨fun x hx => ?_, fun x hx => ?_⟩
  · obtain ⟨hencode, hexec⟩ := addForms_exec n d x hx
    exact Form.does_of_eq hencode (hexec s) (State.addA_eq x.operand x.bytes s)
  · obtain ⟨hencode, hexec⟩ := adcForms_exec n d x hx
    exact Form.does_of_eq hencode (hexec s) (State.adcA_eq x.operand x.bytes s)

/-- Settles O17: every form is one of the two differences, over the operand listed for it, or `NEG`. -/
theorem subtractingFromTheAccumulator : Obligations.SubtractingFromTheAccumulator := by
  refine fun n d s => ⟨fun x hx => ?_, fun x hx => ?_, rfl, congrArg Host.Outcome.next s.negA_eq⟩
  · obtain ⟨hencode, hexec⟩ := subForms_exec n d x hx
    exact Form.does_of_eq hencode (hexec s) (State.subA_eq x.operand x.bytes s)
  · obtain ⟨hencode, hexec⟩ := sbcForms_exec n d x hx
    exact Form.does_of_eq hencode (hexec s) (State.sbcA_eq x.operand x.bytes s)

/-! ### What the flags of a comparison tell (rule R134) -/

theorem differenceFlags_z_iff (a v : Byte) (draws : Nat) : (differenceFlags a v false draws).z = true ↔ a = v := by
  have ha := a.isLt
  have hv := v.isLt
  simp only [differenceFlags, decide_eq_true_eq, Bool.toNat_false, ← BitVec.toNat_inj]
  omega

theorem differenceFlags_c_iff (a v : Byte) (draws : Nat) :
    (differenceFlags a v false draws).c = true ↔ a.toNat < v.toNat := by
  simp only [differenceFlags, decide_eq_true_eq, Bool.toNat_false]
  omega

/-- The sign of the difference is that of its 8 bits, but for overflow. -/
theorem differenceFlags_s_ne_pv_iff (a v : Byte) (draws : Nat) :
    (differenceFlags a v false draws).s ≠ (differenceFlags a v false draws).pv ↔ a.toInt < v.toInt := by
  have ha := a.isLt
  have hv := v.isLt
  rw [ne_eq, Bool.eq_iff_iff]
  simp only [differenceFlags, fits8, BitVec.toInt_eq_toNat_cond, Bool.toNat_false, Bool.not_eq_true',
    Bool.and_eq_false_iff, decide_eq_true_eq, decide_eq_false_iff_not]
  split <;> split <;> omega

/-- Settles O18: `CP` is `SUB` without its result, and the exact difference tells the three orders. -/
theorem comparingWithTheAccumulator : Obligations.ComparingWithTheAccumulator := by
  intro n d s x hx v
  obtain ⟨hencode, hexec⟩ := cpForms_exec n d x hx
  exact ⟨_, Form.does_of_eq hencode (hexec s) (State.cpA_eq x.operand x.bytes s), rfl,
    differenceFlags_z_iff s.a v.1 s.draws, differenceFlags_c_iff s.a v.1 s.draws,
    differenceFlags_s_ne_pv_iff s.a v.1 s.draws⟩

/-! ### One more and one less (rules R136, R137) -/

theorem byte_add_one (v : Byte) : v + 1 = BitVec.ofNat 8 (v.toNat + 1) := by
  rw [BitVec.ofNat_add, BitVec.ofNat_toNat, BitVec.setWidth_eq]
  rfl

theorem byte_sub_one (v : Byte) : v - 1 = BitVec.ofInt 8 ((v.toNat : Int) - 1) := by
  rw [Int.sub_eq_add_neg, BitVec.ofInt_add, BitVec.ofInt_natCast, BitVec.ofNat_toNat, BitVec.setWidth_eq,
    BitVec.sub_eq_add_neg]
  rfl

theorem State.incPlace_replaces {s : State} (hw : Memory.wf s.mem = true) (p : Place8) (bytes : List Byte) :
    let v := (s.placeRead p).1
    Replaces s (s.incPlace p bytes.length) p (BitVec.ofNat 8 (v.toNat + 1))
      { sumFlags v 1 false s.draws with c := s.f.c } (s.draws + 1) (s.past bytes) := by
  simp only [State.placeRead_eq, ← byte_add_one]
  exact State.replacePlace_replaces hw (inc8Flags_eq _ s.f s.draws) p _ bytes

theorem State.decPlace_replaces {s : State} (hw : Memory.wf s.mem = true) (p : Place8) (bytes : List Byte) :
    let v := (s.placeRead p).1
    Replaces s (s.decPlace p bytes.length) p (BitVec.ofInt 8 ((v.toNat : Int) - 1))
      { differenceFlags v 1 false s.draws with c := s.f.c } (s.draws + 1) (s.past bytes) := by
  simp only [State.placeRead_eq, ← byte_sub_one]
  exact State.replacePlace_replaces hw (dec8Flags_eq _ s.f s.draws) p _ bytes

/-- Settles O19: every form replaces the operand listed for it. -/
theorem stepsOfABytePreserveCarry : Obligations.StepsOfABytePreserveCarry := by
  refine fun d s hw => ⟨fun x hx => ?_, fun x hx => ?_⟩
  · obtain ⟨hencode, hexec⟩ := incForms_exec d x hx
    exact ⟨_, ⟨hencode, hexec s⟩, State.incPlace_replaces hw x.operand x.bytes⟩
  · obtain ⟨hencode, hexec⟩ := decForms_exec d x hx
    exact ⟨_, ⟨hencode, hexec s⟩, State.decPlace_replaces hw x.operand x.bytes⟩

end Sys2Proof.Machine
end

section
/-! SUPPORT. The 16-bit arithmetic: registers, flags and `PC` are written independently of each other (40_arithmetic.md
rules R138 to R142). -/

namespace Sys2Proof.Machine

/-- A 16-bit register written, and `PC` moved past the instruction. -/
theorem State.advance_setReg16 (r : Reg16) (w : Word) (bytes : List Byte) (s : State) :
    (s.setReg16 r w).advance bytes.length = State.setReg16 r w { s with pc := s.past bytes } := by
  rw [State.past_eq]
  cases r <;> rfl

/-- An operation on a 16-bit register and the flags, which are not in the register unless it is `AF`. -/
theorem State.operateReg16_eq {upd : FlagUpdate} {s : State} {f : Flags}
    (h : (upd s.f (freeFlagsAt s.draws)).redrawn s.draws = f) {r : Reg16} (hr : r ≠ .af) (w : Word)
    (bytes : List Byte) :
    ((s.setReg16 r w).writeFlags upd).advance bytes.length =
      State.setReg16 r w { s with f := f, draws := s.draws + 1, pc := s.past bytes } := by
  rw [State.past_eq, ← h]
  cases r with
  | af => exact absurd rfl hr
  | _ => rfl

/-! ### One more and one less (rules R138, R139) -/

theorem State.incWord_eq (r : Reg16) (bytes : List Byte) (s : State) :
    s.incWord r bytes.length = State.setReg16 r (moved (s.reg16 r) 1) { s with pc := s.past bytes } := by
  rw [moved_one]
  exact State.advance_setReg16 r _ bytes s

theorem State.decWord_eq (r : Reg16) (bytes : List Byte) (s : State) :
    s.decWord r bytes.length = State.setReg16 r (moved (s.reg16 r) (-1)) { s with pc := s.past bytes } := by
  rw [moved_neg_one]
  exact State.advance_setReg16 r _ bytes s

/-- Settles O20: every form moves the register listed for it by one. -/
theorem stepsOfAWordTouchNoFlag : Obligations.StepsOfAWordTouchNoFlag := by
  refine fun s => ⟨fun x hx => ?_, fun x hx => ?_⟩
  · obtain ⟨hencode, hexec⟩ := incWordForms_exec x hx
    exact Form.does_of_eq hencode (hexec s) (State.incWord_eq x.operand x.bytes s)
  · obtain ⟨hencode, hexec⟩ := decWordForms_exec x hx
    exact Form.does_of_eq hencode (hexec s) (State.decWord_eq x.operand x.bytes s)

/-! ### Sums and differences of words (rules R140 to R142) -/

/-- The flags of a 16-bit sum without carry: `S`, `Z` and `P/V` are kept. -/
theorem add16Flags_eq (a v : Word) (old : Flags) (n : Nat) :
    (add16Flags a v old (freeFlagsAt n)).redrawn n =
      { old.redrawn n with h := (freeFlagsAt n).h, n := false, c := decide (65536 ≤ a.toNat + v.toNat) } := rfl

theorem State.addWord_eq {dst : Reg16} (hdst : dst ≠ .af) (src : Reg16) (bytes : List Byte) (s : State) :
    let a := s.reg16 dst
    let v := s.reg16 src
    s.addWord dst src bytes.length = State.setReg16 dst (BitVec.ofNat 16 (a.toNat + v.toNat))
      { s with
        f := { s.f.redrawn s.draws with
          h := (freeFlagsAt s.draws).h, n := false, c := decide (65536 ≤ a.toNat + v.toNat) }
        draws := s.draws + 1
        pc := s.past bytes } := by
  simp only [BitVec.ofNat_add, BitVec.ofNat_toNat, BitVec.setWidth_eq]
  exact State.operateReg16_eq (add16Flags_eq _ _ s.f s.draws) hdst _ bytes

theorem State.adcHL_eq {bytes : List Byte} (hlen : bytes.length = 2) (src : Reg16) (s : State) :
    let v := s.reg16 src
    s.adcHL src = State.setReg16 .hl (BitVec.ofNat 16 (s.hl.toNat + v.toNat + s.f.c.toNat))
      { s with f := wordSumFlags s.hl v s.f.c s.draws, draws := s.draws + 1, pc := s.past bytes } := by
  rw [State.adcHL, ← hlen]
  exact State.operateReg16_eq (adc16Flags_eq s.hl _ s.f.c s.f s.draws) (r := .hl) (by decide) _ bytes

theorem State.sbcHL_eq {bytes : List Byte} (hlen : bytes.length = 2) (src : Reg16) (s : State) :
    let v := s.reg16 src
    s.sbcHL src = State.setReg16 .hl (BitVec.ofInt 16 ((s.hl.toNat : Int) - v.toNat - s.f.c.toNat))
      { s with f := wordDifferenceFlags s.hl v s.f.c s.draws, draws := s.draws + 1, pc := s.past bytes } := by
  rw [State.sbcHL, ← hlen]
  exact State.operateReg16_eq (sbc16Flags_eq s.hl _ s.f.c s.f s.draws) (r := .hl) (by decide) _ bytes

/-- Settles O21: every form adds the second register listed for it to the first, which is not `AF`. -/
theorem addingWords : Obligations.AddingWords := by
  intro s x hx
  obtain ⟨hencode, hexec, hdst⟩ := addWordForms_exec x hx
  exact Form.does_of_eq hencode (hexec s) (State.addWord_eq hdst x.operand.2 x.bytes s)

/-- Settles O22: every form adds the register listed for it and the carry to `HL`, or subtracts them. -/
theorem addingWordsWithCarry : Obligations.AddingWordsWithCarry := by
  refine fun s => ⟨fun x hx => ?_, fun x hx => ?_⟩
  · obtain ⟨hencode, hexec, hlen⟩ := adcWordForms_exec x hx
    exact Form.does_of_eq hencode (hexec s) (State.adcHL_eq hlen x.operand s)
  · obtain ⟨hencode, hexec, hlen⟩ := sbcWordForms_exec x hx
    exact Form.does_of_eq hencode (hexec s) (State.sbcHL_eq hlen x.operand s)

end Sys2Proof.Machine
end

section
/-! SUPPORT. `DAA` over numbers (40_arithmetic.md rule R143). -/

namespace Sys2Proof.Machine

/-- The correction is the sum of its two digits. -/
theorem daaCorrection_toNat (a : Byte) (f : Flags) :
    (daaCorrection a f).toNat = (if f.c = true ∨ 0x99 < a.toNat then 0x60 else 0) +
      if f.h = true ∨ 9 < a.toNat % 16 then 6 else 0 := by
  simp only [daaCorrection, daaLow, daaHigh, lowNibble, gt_iff_lt, Bool.or_eq_true, decide_eq_true_eq]
  split_ifs <;> rfl

/-- The result, from the correction as a number. -/
theorem daaResult_eq {a : Byte} {f : Flags} {k : Nat} (h : (daaCorrection a f).toNat = k) :
    daaResult a f = BitVec.ofInt 8 (if f.n then (a.toNat : Int) - k else a.toNat + k) := by
  have hk : daaCorrection a f = BitVec.ofNat 8 k := by rw [← h, BitVec.ofNat_toNat, BitVec.setWidth_eq]
  rw [daaResult, hk]
  split
  · rw [Int.sub_eq_add_neg, BitVec.ofInt_add, BitVec.ofInt_neg]
    simp [BitVec.sub_eq_add_neg]
  · simp [BitVec.ofInt_add]

/-- The carry out is the correction of the high digit. -/
theorem daaHigh_eq (a : Byte) (f : Flags) :
    daaHigh a f = decide ((if f.c = true ∨ 0x99 < a.toNat then 0x60 else 0) = 0x60) := by
  rw [Bool.eq_iff_iff]
  simp [daaHigh]

/-- The flags of `DAA`: `N` is kept. -/
theorem daaFlags_eq (a : Byte) (old : Flags) (n : Nat) :
    (daaFlags a old (freeFlagsAt n)).redrawn n =
      { parityFlags (daaResult a old) (if old.n then old.h && decide (a.toNat % 16 < 6) else decide (9 < a.toNat % 16))
          (daaHigh a old) n with n := old.n } := by
  rw [← szpFlags_eq _ _ _ old]
  rfl

/-- Settles O23: the bits of the correction are those of its two digits. -/
theorem decimalAdjustment : Obligations.DecimalAdjustment := by
  intro s a low high result
  have hresult : result = daaResult s.a s.f := (daaResult_eq (daaCorrection_toNat s.a s.f)).symm
  refine ⟨rfl, congrArg Host.Outcome.next ?_⟩
  rw [hresult, ← daaHigh_eq, ← daaFlags_eq, State.past_eq]
  rfl

end Sys2Proof.Machine
end

section
/-! SUPPORT. Logic and single bits: what each operation leaves, and the one bit of a byte that `BIT`, `RES` and `SET`
name (41_logic_bit.md rules R170 to R179). -/

namespace Sys2Proof.Machine

/-! ### Logic with `A` (rules R170 to R172) -/

/-- The flags of a logical operation: `C` is reset. -/
theorem logicFlags_eq (res : Byte) (h : Bool) (old : Flags) (n : Nat) :
    (logicFlags res h old (freeFlagsAt n)).redrawn n = parityFlags res h false n := szpFlags_eq res h false old n

/-- What `AND`, `OR` and `XOR` share: the result is a function of the operand read, and the flags are those of the
result, with `H` as given. -/
theorem State.logicA_eq (h : Bool) (o : Operand8) (res : Byte → Byte) (bytes : List Byte) (s : State) :
    (State.writeFlags (logicFlags (res (s.read8 o).1) h) { (s.read8 o).2 with a := res (s.read8 o).1 }).advance
        bytes.length =
      let v := s.operandRead o
      { s with
        a := res v.1
        f := parityFlags (res v.1) h false s.draws
        draws := s.draws + 1
        history := v.2
        pc := s.past bytes } :=
  State.operateA_eq (fun v => logicFlags_eq (res v) h s.f s.draws) o res bytes

/-- Settles O24: every form is one of the three operations, over the operand listed for it. -/
theorem logicOnTheAccumulator : Obligations.LogicOnTheAccumulator := by
  refine fun n d s => ⟨fun x hx => ?_, fun x hx => ?_, fun x hx => ?_⟩
  · obtain ⟨hencode, hexec⟩ := andForms_exec n d x hx
    exact ⟨s.a &&& (s.operandRead x.operand).1, fun _ _ => BitVec.getLsbD_and,
      Form.does_of_eq hencode (hexec s) (State.logicA_eq true x.operand (s.a &&& ·) x.bytes s)⟩
  · obtain ⟨hencode, hexec⟩ := orForms_exec n d x hx
    exact ⟨s.a ||| (s.operandRead x.operand).1, fun _ _ => BitVec.getLsbD_or,
      Form.does_of_eq hencode (hexec s) (State.logicA_eq false x.operand (s.a ||| ·) x.bytes s)⟩
  · obtain ⟨hencode, hexec⟩ := xorForms_exec n d x hx
    exact ⟨s.a ^^^ (s.operandRead x.operand).1, fun _ _ => BitVec.getLsbD_xor,
      Form.does_of_eq hencode (hexec s) (State.logicA_eq false x.operand (s.a ^^^ ·) x.bytes s)⟩

/-! ### Complement and carry (rules R174 to R176) -/

/-- Every bit inverted, as a number. -/
theorem byte_xor_ones (v : Byte) : v ^^^ 0xFF = BitVec.ofNat 8 (255 - v.toNat) := by
  have hnot : v ^^^ 0xFF = ~~~v := BitVec.xor_allOnes
  refine hnot.trans (BitVec.eq_of_toNat_eq ?_)
  rw [BitVec.toNat_not, BitVec.toNat_ofNat]
  omega

theorem State.complementA_eq (s : State) :
    s.complementA = { s with
      a := BitVec.ofNat 8 (255 - s.a.toNat)
      f := { s.f.redrawn s.draws with h := true, n := true }
      draws := s.draws + 1
      pc := s.past [0x2F] } := by
  rw [State.past_eq, ← byte_xor_ones]
  rfl

/-- Settles O25: `CCF` and `SCF` are a flag write and the move of `PC`, and `CPL` inverts `A` besides. -/
theorem complementAndCarryFlagInstructions : Obligations.ComplementAndCarryFlagInstructions := by
  refine fun s => ⟨⟨rfl, congrArg Host.Outcome.next s.complementA_eq⟩, ⟨rfl, ?_⟩, rfl, ?_⟩
  all_goals
    rw [State.past_eq]
    rfl

/-! ### The test of a bit (rule R177) -/

/-- An operand that can be written, read: the byte, and what the read changes. -/
theorem State.readLocation_of_placeRead (s : State) (p : Place8) :
    s.readLocation (s.locate p) = ((s.placeRead p).1, { s with history := (s.placeRead p).2 }) :=
  s.read8_of_operandRead (.place p)

/-- The opposite of a bit, as a digit of the number. -/
theorem byte_bit_clear (v : Byte) (b : Nat) : (!v.getLsbD b) = decide (v.toNat / 2 ^ b % 2 = 0) := by
  rw [BitVec.getLsbD, Nat.testBit_eq_decide_div_mod_eq, ← decide_not]
  exact decide_eq_decide.2 (by omega)

theorem State.testBit_eq (b : Nat) (p : Place8) (bytes : List Byte) (s : State) :
    let v := s.placeRead p
    s.testBit b p bytes.length = { s with
      f := { s.f.redrawn s.draws with
        s := (freeFlagsAt s.draws).s, z := decide (v.1.toNat / 2 ^ b % 2 = 0), h := true
        pv := (freeFlagsAt s.draws).pv, n := false }
      draws := s.draws + 1
      history := v.2
      pc := s.past bytes } := by
  simp only [State.testBit, State.readLocation_of_placeRead, State.past_eq, ← byte_bit_clear]
  rfl

/-- Settles O26: every form tests the bit of the operand listed for it. -/
theorem bitTestSetsZeroFlag : Obligations.BitTestSetsZeroFlag := by
  intro b d s _ x hx
  obtain ⟨hencode, hexec⟩ := bitForms_exec b d x hx
  exact Form.does_of_eq hencode (hexec s) (State.testBit_eq b x.operand x.bytes s)

/-! ### One bit changed (rules R178, R179) -/

/-- Resetting a bit keeps the other bits. -/
theorem getElem_resetBit (b : Nat) (v : Byte) {k : Nat} (hk : k < 8) :
    (resetBit b v)[k] = (v[k] && !decide (k = b)) := by
  have h : resetBit b v = v &&& ~~~BitVec.twoPow 8 b := rfl
  simp [h]

/-- Setting a bit keeps the other bits. -/
theorem getElem_setBit (b : Nat) (v : Byte) {k : Nat} (hk : k < 8) :
    (setBit b v)[k] = (v[k] || decide (k = b)) := by
  have h : setBit b v = v ||| BitVec.twoPow 8 b := rfl
  simp [h]

/-- A byte without a bit, and that bit, is the byte with the bit set: no bit is in both, so nothing is carried. -/
theorem resetBit_add_twoPow (b : Nat) (v : Byte) : resetBit b v + BitVec.twoPow 8 b = setBit b v := by
  have hdisjoint : resetBit b v &&& BitVec.twoPow 8 b = 0#8 := by
    ext k hk
    simp [getElem_resetBit]
  rw [BitVec.add_eq_or_of_and_eq_zero _ _ hdisjoint]
  ext k hk
  by_cases hkb : k = b <;> simp [getElem_resetBit, getElem_setBit, hkb]

/-- Setting a bit that is set changes nothing. -/
theorem setBit_of_set {b : Nat} {v : Byte} (h : v.getLsbD b = true) : setBit b v = v := by
  ext k hk
  rw [getElem_setBit]
  rcases eq_or_ne k b with rfl | hne
  · rw [BitVec.getLsbD_eq_getElem hk] at h
    simp [h]
  · simp [hne]

/-- Resetting a bit that is clear changes nothing. -/
theorem resetBit_of_clear {b : Nat} {v : Byte} (h : v.getLsbD b = false) : resetBit b v = v := by
  ext k hk
  rw [getElem_resetBit]
  rcases eq_or_ne k b with rfl | hne
  · rw [BitVec.getLsbD_eq_getElem hk] at h
    simp [h]
  · simp [hne]

/-- The weight of a bit, as a byte. -/
theorem ofNat_two_pow (b : Nat) : BitVec.ofNat 8 (2 ^ b) = BitVec.twoPow 8 b := BitVec.eq_of_toNat_eq (by simp)

/-- Resetting a bit takes its weight away, if it was there. -/
theorem resetBit_eq {b : Nat} (hb : b < 8) (v : Byte) :
    resetBit b v = BitVec.ofNat 8 (v.toNat - if v.getLsbD b then 2 ^ b else 0) := by
  cases h : v.getLsbD b with
  | false => simp [resetBit_of_clear h]
  | true =>
    have hsum : resetBit b v + BitVec.twoPow 8 b = v := (resetBit_add_twoPow b v).trans (setBit_of_set h)
    have hle : 2 ^ b ≤ v.toNat := Nat.ge_two_pow_of_testBit h
    rw [BitVec.eq_sub_iff_add_eq.2 hsum, if_pos rfl,
      ← BitVec.ofNat_sub_ofNat_of_le _ _ (Nat.pow_lt_pow_right (by decide) hb) hle, ofNat_two_pow]
    simp

/-- Setting a bit adds its weight, if it was not there. -/
theorem setBit_eq (b : Nat) (v : Byte) :
    setBit b v = BitVec.ofNat 8 (v.toNat + if v.getLsbD b then 0 else 2 ^ b) := by
  cases h : v.getLsbD b with
  | false =>
    rw [← resetBit_add_twoPow, resetBit_of_clear h, ← ofNat_two_pow]
    simp [BitVec.ofNat_add]
  | true => simp [setBit_of_set h]

/-- A byte changed in place replaces the operand, and writes no flag. -/
theorem State.modifyPlace_replaces {s : State} (hw : Memory.wf s.mem = true) (g : Byte → Byte) (p : Place8)
    (bytes : List Byte) :
    Replaces s (s.modifyPlace g p bytes.length) p (g (s.placeRead p).1) s.f s.draws (s.past bytes) := by
  have hreplaces := State.writeLocation_replaces hw p (g (s.placeRead p).1) s.f s.draws (s.past bytes)
  rw [State.placeRead_eq, State.past_eq] at hreplaces ⊢
  simpa [State.modifyPlace, State.advance] using hreplaces

/-- Settles O27: every form changes the operand listed for it by the weight of the bit. -/
theorem bitResetAndSetChangeOneBit : Obligations.BitResetAndSetChangeOneBit := by
  refine fun b d s hb hw => ⟨fun x hx => ?_, fun x hx => ?_⟩
  · obtain ⟨hencode, hexec⟩ := resForms_exec b d x hx
    refine ⟨_, ⟨hencode, hexec s⟩, ?_⟩
    rw [← resetBit_eq hb]
    exact State.modifyPlace_replaces hw (resetBit b) x.operand x.bytes
  · obtain ⟨hencode, hexec⟩ := setForms_exec b d x hx
    refine ⟨_, ⟨hencode, hexec s⟩, ?_⟩
    rw [← setBit_eq]
    exact State.modifyPlace_replaces hw (setBit b) x.operand x.bytes

end Sys2Proof.Machine
end

section
/-! SUPPORT. Control transfers: what each leaves, in the words of the claims (42_control.md rules R200 to R212). -/

namespace Sys2Proof.Machine

/-! ### Jumps (rules R200 to R205) -/

/-- A transfer on a condition moves `PC` alone. -/
theorem State.goto_or_advance_eq (taken : Prop) [Decidable taken] (target : Word) (bytes : List Byte) (s : State) :
    (if taken then s.goto target else s.advance bytes.length) =
      { s with pc := if taken then target else s.past bytes } := by
  rw [State.advance_eq rfl]
  split <;> rfl

/-- The target of a relative jump, computed over the integers, is the one the meanings compute. -/
theorem relativeTarget_eq (pc : Word) (e : Byte) :
    relativeTarget pc e = BitVec.ofInt 16 ((pc.toNat : Int) + 2 + e.toInt) := by
  rw [BitVec.ofInt_add, BitVec.ofInt_add, BitVec.ofInt_natCast, BitVec.ofNat_toNat, BitVec.setWidth_eq]
  rfl

/-- One less, as a sum modulo 256. -/
theorem byte_sub_one_eq_add (v : Byte) : v - 1 = BitVec.ofNat 8 (v.toNat + 255) := by
  bv_omega

/-- `DJNZ` writes `B` and moves `PC`, back or on as the new `B` says. -/
theorem State.decrementJump_eq (e : Byte) (s : State) :
    s.decrementJump e = { s with
      b := s.b - 1, pc := if (s.b - 1).toNat = 0 then s.past [0x10, e] else relativeTarget s.pc e } := by
  have hzero : s.b - 1 = 0 ↔ (s.b - 1).toNat = 0 := BitVec.toNat_eq
  simp only [State.decrementJump, State.past_eq, hzero]
  split <;> rfl

/-- Settles O31: every form moves `PC` to the target listed for it, or past itself. -/
theorem absoluteJumps : Obligations.AbsoluteJumps := by
  refine fun nn s => ⟨⟨rfl, rfl⟩, fun x hx => ?_, fun x hx => ?_⟩
  · obtain ⟨hencode, hexec⟩ := jumpIfForms_exec nn x hx
    exact Form.does_of_eq hencode (hexec s) (State.goto_or_advance_eq _ nn x.bytes s)
  · obtain ⟨hencode, hexec⟩ := jumpRegisterForms_exec x hx
    exact ⟨hencode, hexec s⟩

/-- Settles O32: the two sums for the target agree, and so do the two ways to count `B` down. -/
theorem relativeJumps : Obligations.RelativeJumps := by
  intro e s target
  have htarget : relativeTarget s.pc e = target := relativeTarget_eq s.pc e
  refine ⟨⟨rfl, ?_⟩, fun x hx => ?_, rfl, ?_⟩
  · rw [← htarget]
    rfl
  · obtain ⟨hencode, hexec⟩ := jumpRelativeIfForms_exec e x hx
    rw [← htarget]
    exact Form.does_of_eq hencode (hexec s) (State.goto_or_advance_eq _ _ x.bytes s)
  · simp only [← htarget, ← byte_sub_one_eq_add]
    exact congrArg Host.Outcome.next (State.decrementJump_eq e s)

/-! ### Calls and restarts (rules R206, R207, R212) -/

theorem State.call_pushes {s : State} (hw : Memory.wf s.mem = true) {bytes : List Byte} (hlen : bytes.length = 3)
    (nn : Word) : Pushes s (s.call nn) (s.past bytes) nn := by
  rw [State.past_eq, hlen]
  exact State.push16_pushes hw _ nn

/-- Settles O33: a call or a restart is a push and a jump, and a call that is not taken moves past itself. -/
theorem callsAndRestarts : Obligations.CallsAndRestarts := by
  refine fun nn s hw => ⟨⟨_, ⟨rfl, rfl⟩, State.call_pushes hw (bytes := [0xCD, loByte nn, hiByte nn]) rfl nn⟩,
    fun x hx => ?_, fun x hx => ?_⟩
  · obtain ⟨hencode, hexec, hlen⟩ := callIfForms_exec nn x hx
    refine ⟨_, ⟨hencode, hexec s⟩, ?_⟩
    split
    · exact State.call_pushes hw hlen nn
    · exact State.advance_eq rfl s
  · obtain ⟨hencode, hexec⟩ := restartForms_exec x hx
    refine ⟨_, ⟨hencode, hexec s⟩, ?_⟩
    rw [Form.past, State.past_eq]
    exact State.push16_pushes hw _ x.operand

/-! ### Returns (rules R208 to R211) -/

/-- A pop, in the words of the claims. -/
theorem State.pop16_of_wordAt (s : State) :
    s.pop16 = ((s.wordAt s.sp).1, { s with sp := s.sp + 2, history := (s.wordAt s.sp).2 }) := by
  rw [State.pop16_state, State.readWord_of_wordAt]

theorem State.ret_eq (s : State) :
    s.ret = { s with sp := s.sp + 2, pc := (s.wordAt s.sp).1, history := (s.wordAt s.sp).2 } := by
  simp only [State.ret, State.pop16_of_wordAt]
  rfl

/-- The return from an interrupt is a return that restores the enable too. -/
theorem State.returnFromInterrupt_eq (s : State) :
    s.returnFromInterrupt = { s with
      sp := s.sp + 2, pc := (s.wordAt s.sp).1, history := (s.wordAt s.sp).2, iff1 := s.iff2 } := by
  simp only [State.returnFromInterrupt, State.pop16_of_wordAt]

/-- Settles O34: a return that is taken pops `PC`, and one that is not moves past itself. -/
theorem returns : Obligations.Returns := by
  refine fun s => ⟨⟨rfl, congrArg Host.Outcome.next s.ret_eq⟩, fun x hx => ?_⟩
  obtain ⟨hencode, hexec⟩ := returnIfForms_exec x hx
  refine Form.does_of_eq hencode (hexec s) ?_
  rw [State.ret_eq, State.advance_eq rfl]
  rfl

theorem returnFromInterruptForms_exec :
    ∀ x ∈ ([⟨.reti, [0xED, 0x4D], ()⟩, ⟨.retn, [0xED, 0x45], ()⟩] : List (Form Unit)), encode x.instr = x.bytes ∧
      ∀ s, exec x.instr s = .next s.returnFromInterrupt :=
  forms_cons ⟨rfl, fun _ => rfl⟩ (forms_cons ⟨rfl, fun _ => rfl⟩ (List.forall_mem_nil _))

/-- Settles O35: both forms are the one return from an interrupt. -/
theorem returnsFromInterrupts : Obligations.ReturnsFromInterrupts := by
  intro s x hx
  obtain ⟨hencode, hexec⟩ := returnFromInterruptForms_exec x hx
  exact Form.does_of_eq hencode (hexec s) s.returnFromInterrupt_eq

end Sys2Proof.Machine
end

section
/-! SUPPORT. The block instructions: one form is an operation in one of two directions, and a repeating form the same
operation with `PC` left where it was until it is done (43_block.md rules R230 to R239; 46_io.md rules R283 to R286,
R294 to R297). -/

namespace Sys2Proof.Machine

/-! ### Directions and repetition (rules R230, R231) -/

/-- How far a direction moves a pointer, as the lists of forms give it. -/
def Direction.amount : Direction → Int
  | .up => 1
  | .down => -1

theorem Direction.move_eq (dir : Direction) (w : Word) : dir.move w = moved w dir.amount := by
  cases dir with
  | up => exact (moved_one w).symm
  | down => exact (moved_neg_one w).symm

theorem Direction.blockIoN_eq (dir : Direction) : dir.blockIoN = decide (dir.amount = -1) := by
  cases dir <;> rfl

/-- The form is a block operation in the direction listed for it, with `PC` moved past the form when it does not repeat
or is done. -/
def Form.Iterates (op : Direction → State → State) (done : State → Bool) (x : Form (Int × Bool)) : Prop :=
  encode x.instr = x.bytes ∧ x.bytes.length = 2 ∧ ∃ dir : Direction, dir.amount = x.operand.1 ∧
    ∀ s, exec x.instr s = .next ((op dir s).endIteration (!x.operand.2 || done (op dir s)))

/-- Where an iteration leaves `PC`, from what keeps a repeating form going. -/
theorem State.endIteration_eq {bytes : List Byte} (hlen : bytes.length = 2) {done : Bool} {goesOn : Prop}
    [Decidable goesOn] (hdone : done = decide ¬goesOn) (rep : Bool) (s : State) :
    s.endIteration (!rep || done) = { s with pc := if rep = true ∧ goesOn then s.pc else s.past bytes } := by
  subst hdone
  by_cases hgo : rep = true ∧ goesOn
  · simp [State.endIteration, hgo]
  · have hdone : (!rep || decide ¬goesOn) = true := by simpa [Classical.or_iff_not_imp_left] using hgo
    rw [hdone, if_neg hgo]
    exact State.advance_eq hlen s

/-! ### One byte read, one byte written (rules R62, R63) -/

theorem State.readByte_of_byteAt (s : State) (addr : Word) :
    s.readByte addr = ((s.byteAt addr).1, { s with history := (s.byteAt addr).2 }) :=
  Prod.ext rfl (State.readByte_state addr s)

theorem State.writeByte_of_handed (addr : Word) (v : Byte) (s : State) :
    s.writeByte addr v = { s with mem := (s.writeByte addr v).mem, history := s.handed addr v ++ s.history } := by
  rw [← State.writeByte_history_eq]
  exact State.writeByte_state addr v s

theorem word_bne_zero (w : Word) : (w != 0) = decide (w ≠ 0) := (decide_not (p := w = 0)).symm

/-- A count of 0, as the end of what goes on while it is not 0. -/
theorem word_beq_zero_not (w : Word) : (w == 0) = decide ¬w ≠ 0 := decide_eq_decide.2 not_not.symm

/-- A count of 0, as the end of what goes on while it is not 0. -/
theorem byte_beq_zero_not (x : Byte) : (x == 0) = decide ¬x.toNat ≠ 0 :=
  (byte_beq_zero x).trans (decide_eq_decide.2 not_not.symm)

/-! ### Block moves (rules R236 to R239) -/

def blockMoveForms : List (Form (Int × Bool)) :=
  [⟨.ldi, [0xED, 0xA0], (1, false)⟩, ⟨.ldd, [0xED, 0xA8], (-1, false)⟩, ⟨.ldir, [0xED, 0xB0], (1, true)⟩,
    ⟨.lddr, [0xED, 0xB8], (-1, true)⟩]

theorem blockMoveForms_iterate : ∀ x ∈ blockMoveForms, x.Iterates State.moveStep fun t => t.bc == 0 :=
  forms_cons ⟨rfl, rfl, .up, rfl, fun _ => rfl⟩ (forms_cons ⟨rfl, rfl, .down, rfl, fun _ => rfl⟩
    (forms_cons ⟨rfl, rfl, .up, rfl, fun _ => rfl⟩ (forms_cons ⟨rfl, rfl, .down, rfl, fun _ => rfl⟩
      (List.forall_mem_nil _))))

theorem State.moveStep_eq (dir : Direction) (s : State) :
    let v := s.byteAt s.hl
    let source := moved s.hl dir.amount
    let target := moved s.de dir.amount
    let count := moved s.bc (-1)
    s.moveStep dir = { s with
      b := hiByte count
      c := loByte count
      d := hiByte target
      e := loByte target
      h := hiByte source
      l := loByte source
      f := { s.f.redrawn s.draws with pv := decide (count ≠ 0), h := false, n := false }
      draws := s.draws + 1
      mem := (s.moveStep dir).mem
      history := s.handed s.de v.1 ++ v.2 } := by
  simp only [State.moveStep, State.readByte_of_byteAt, ← Direction.move_eq, moved_neg_one, ← word_bne_zero]
  rw [State.writeByte_of_handed]
  rfl

theorem State.moveStep_bc (dir : Direction) (s : State) : (s.moveStep dir).bc = moved s.bc (-1) :=
  (joinBytes_hi_lo _).trans (moved_neg_one _).symm

theorem State.moveStep_stores {s : State} (hw : Memory.wf s.mem = true) (dir : Direction) :
    StoresByte s (s.moveStep dir) s.de (s.byteAt s.hl).1 := by
  have hstores := State.writeByte_stores (s := (s.readByte s.hl).2) (by simpa using hw) s.de (s.byteAt s.hl).1
  exact hstores.congr (by simp) (by simp) rfl

/-- Settles O36: every form is one iteration in one of two directions. -/
theorem blockMoves : Obligations.BlockMoves := by
  intro s hw x hx v source target count
  obtain ⟨hencode, hlen, dir, hdir, hexec⟩ := blockMoveForms_iterate x hx
  have hstep := State.moveStep_eq dir s
  have hdone : ((s.moveStep dir).bc == 0) = decide ¬count ≠ 0 := by
    rw [State.moveStep_bc]
    exact word_beq_zero_not count
  have hend := State.endIteration_eq hlen hdone x.operand.2 (s.moveStep dir)
  refine ⟨_, ⟨hencode, hexec s⟩, ?_, ?_⟩
  · rw [hend, hstep, hdir]
    rfl
  · rw [hend]
    exact (State.moveStep_stores hw dir).congr rfl rfl rfl

/-! ### Block compares (rules R232 to R235) -/

def blockCompareForms : List (Form (Int × Bool)) :=
  [⟨.cpi, [0xED, 0xA1], (1, false)⟩, ⟨.cpd, [0xED, 0xA9], (-1, false)⟩, ⟨.cpir, [0xED, 0xB1], (1, true)⟩,
    ⟨.cpdr, [0xED, 0xB9], (-1, true)⟩]

theorem blockCompareForms_iterate :
    ∀ x ∈ blockCompareForms, x.Iterates State.compareStep fun t => t.bc == 0 || t.f.z :=
  forms_cons ⟨rfl, rfl, .up, rfl, fun _ => rfl⟩ (forms_cons ⟨rfl, rfl, .down, rfl, fun _ => rfl⟩
    (forms_cons ⟨rfl, rfl, .up, rfl, fun _ => rfl⟩ (forms_cons ⟨rfl, rfl, .down, rfl, fun _ => rfl⟩
      (List.forall_mem_nil _))))

/-- The flags of a block compare are those of the difference, but for `P/V` and `C`. -/
theorem blockCompareFlags_eq (a v : Byte) (remains : Bool) (old : Flags) (n : Nat) :
    (blockCompareFlags a v remains old (freeFlagsAt n)).redrawn n =
      { differenceFlags a v false n with pv := remains, c := old.c } := by
  rw [← sub8Flags_eq a v false old n]
  rfl

theorem State.compareStep_eq (dir : Direction) (s : State) :
    let v := s.byteAt s.hl
    let source := moved s.hl dir.amount
    let count := moved s.bc (-1)
    s.compareStep dir = { s with
      b := hiByte count
      c := loByte count
      h := hiByte source
      l := loByte source
      f := { differenceFlags s.a v.1 false s.draws with pv := decide (count ≠ 0), c := s.f.c }
      draws := s.draws + 1
      history := v.2 } := by
  simp only [State.compareStep, State.readByte_of_byteAt, ← Direction.move_eq, moved_neg_one, ← word_bne_zero,
    ← blockCompareFlags_eq]
  rfl

/-- A repeating compare goes on while count remains and the byte differs. -/
theorem State.compareStep_done (dir : Direction) (s : State) :
    ((s.compareStep dir).bc == 0 || (s.compareStep dir).f.z) =
      decide ¬(moved s.bc (-1) ≠ 0 ∧ s.a ≠ (s.byteAt s.hl).1) := by
  have hz := differenceFlags_z_iff s.a (s.byteAt s.hl).1 s.draws
  refine Bool.eq_iff_iff.2 (Iff.trans ?_ decide_eq_true_iff.symm)
  rw [State.compareStep_eq]
  simp only [State.bc, joinBytes_hi_lo, Bool.or_eq_true, beq_iff_eq, hz]
  tauto

/-- Settles O37: every form is one iteration in one of two directions, and the difference is 0 when the byte matched. -/
theorem blockCompares : Obligations.BlockCompares := by
  intro s x hx v source count
  obtain ⟨hencode, hlen, dir, hdir, hexec⟩ := blockCompareForms_iterate x hx
  refine Form.does_of_eq hencode (hexec s) ?_
  rw [State.endIteration_eq hlen (State.compareStep_done dir s), State.compareStep_eq, hdir]
  rfl

/-! ### Block inputs and outputs (rules R283 to R286, R294 to R297) -/

/-- The flags of a block input or output: all free, but for `Z`, `N` and `C`. -/
theorem blockIoFlags_eq (dir : Direction) (count : Byte) (old : Flags) (n : Nat) :
    (blockIoFlags dir (count == 0) old (freeFlagsAt n)).redrawn n =
      { freeFlagsAt n with z := decide (count.toNat = 0), n := decide (dir.amount = -1), c := old.c } := by
  rw [← byte_beq_zero, ← Direction.blockIoN_eq]
  rfl

def blockInputForms : List (Form (Int × Bool)) :=
  [⟨.ini, [0xED, 0xA2], (1, false)⟩, ⟨.ind, [0xED, 0xAA], (-1, false)⟩, ⟨.inir, [0xED, 0xB2], (1, true)⟩,
    ⟨.indr, [0xED, 0xBA], (-1, true)⟩]

theorem blockInputForms_iterate : ∀ x ∈ blockInputForms, x.Iterates State.inputStep fun t => t.b == 0 :=
  forms_cons ⟨rfl, rfl, .up, rfl, fun _ => rfl⟩ (forms_cons ⟨rfl, rfl, .down, rfl, fun _ => rfl⟩
    (forms_cons ⟨rfl, rfl, .up, rfl, fun _ => rfl⟩ (forms_cons ⟨rfl, rfl, .down, rfl, fun _ => rfl⟩
      (List.forall_mem_nil _))))

theorem State.inputStep_eq (dir : Direction) (s : State) :
    let port := portOf s.b s.c
    let v := Config.ioByte port s.history
    let pointer := moved s.hl dir.amount
    let count : Byte := BitVec.ofNat 8 (s.b.toNat + 255)
    s.inputStep dir = { s with
      b := count
      h := hiByte pointer
      l := loByte pointer
      f := { freeFlagsAt s.draws with
        z := decide (count.toNat = 0), n := decide (dir.amount = -1), c := s.f.c }
      draws := s.draws + 1
      mem := (s.inputStep dir).mem
      history := s.handed s.hl v ++ .ioRead port v :: s.history } := by
  simp only [State.inputStep, State.ioRead, portOf_eq, ← Direction.move_eq, ← byte_sub_one_eq_add, ← blockIoFlags_eq]
  rw [State.writeByte_of_handed]
  rfl

theorem State.inputStep_stores {s : State} (hw : Memory.wf s.mem = true) (dir : Direction) :
    StoresByte s (s.inputStep dir) s.hl (Config.ioByte (portOf s.b s.c) s.history) := by
  have hstores := State.writeByte_stores (s := (s.ioRead s.bc).2) hw s.hl (Config.ioByte s.bc s.history)
  rw [portOf_eq]
  exact hstores.congr rfl rfl rfl

/-- Settles O41: every form is one iteration in one of two directions. -/
theorem blockInputs : Obligations.BlockInputs := by
  intro s hw x hx port v pointer count
  obtain ⟨hencode, hlen, dir, hdir, hexec⟩ := blockInputForms_iterate x hx
  have hstep := State.inputStep_eq dir s
  have hdone : ((s.inputStep dir).b == 0) = decide ¬count.toNat ≠ 0 := by
    rw [hstep]
    exact byte_beq_zero_not count
  have hend := State.endIteration_eq hlen hdone x.operand.2 (s.inputStep dir)
  refine ⟨_, ⟨hencode, hexec s⟩, ?_, ?_⟩
  · rw [hend, hstep, hdir]
    rfl
  · rw [hend]
    exact (State.inputStep_stores hw dir).congr rfl rfl rfl

def blockOutputForms : List (Form (Int × Bool)) :=
  [⟨.outi, [0xED, 0xA3], (1, false)⟩, ⟨.outd, [0xED, 0xAB], (-1, false)⟩, ⟨.otir, [0xED, 0xB3], (1, true)⟩,
    ⟨.otdr, [0xED, 0xBB], (-1, true)⟩]

theorem blockOutputForms_iterate : ∀ x ∈ blockOutputForms, x.Iterates State.outputStep fun t => t.b == 0 :=
  forms_cons ⟨rfl, rfl, .up, rfl, fun _ => rfl⟩ (forms_cons ⟨rfl, rfl, .down, rfl, fun _ => rfl⟩
    (forms_cons ⟨rfl, rfl, .up, rfl, fun _ => rfl⟩ (forms_cons ⟨rfl, rfl, .down, rfl, fun _ => rfl⟩
      (List.forall_mem_nil _))))

theorem State.outputStep_eq (dir : Direction) (s : State) :
    let v := s.byteAt s.hl
    let pointer := moved s.hl dir.amount
    let count : Byte := BitVec.ofNat 8 (s.b.toNat + 255)
    s.outputStep dir = { s with
      b := count
      h := hiByte pointer
      l := loByte pointer
      f := { freeFlagsAt s.draws with
        z := decide (count.toNat = 0), n := decide (dir.amount = -1), c := s.f.c }
      draws := s.draws + 1
      history := .ioWrite (portOf count s.c) v.1 :: v.2 } := by
  simp only [State.outputStep, State.readByte_of_byteAt, portOf_eq, ← Direction.move_eq, ← byte_sub_one_eq_add,
    ← blockIoFlags_eq]
  rfl

/-- Settles O42: every form is one iteration in one of two directions. -/
theorem blockOutputs : Obligations.BlockOutputs := by
  intro s x hx v pointer count
  obtain ⟨hencode, hlen, dir, hdir, hexec⟩ := blockOutputForms_iterate x hx
  have hstep := State.outputStep_eq dir s
  have hdone : ((s.outputStep dir).b == 0) = decide ¬count.toNat ≠ 0 := by
    rw [hstep]
    exact byte_beq_zero_not count
  refine Form.does_of_eq hencode (hexec s) ?_
  rw [State.endIteration_eq hlen hdone, hstep, hdir]
  rfl

end Sys2Proof.Machine
end

section
/-! SUPPORT. `LDIR` run to its end on an all-RAM platform: one iteration is the block copied up to one byte, and copying
one byte and then `n` is copying `n + 1` (43_block.md rules R231, R238; 70_reset_and_hazards.md rules R465, R475). -/

namespace Sys2Proof.Machine

/-! ### Moving and counting by several (rules R31, R72) -/

theorem moved_moved (w : Word) (j k : Int) : moved (moved w j) k = moved w (j + k) := by
  simp only [moved, BitVec.ofInt_add, BitVec.ofInt_natCast, BitVec.ofNat_toNat, BitVec.setWidth_eq, BitVec.add_assoc]

/-- A count lowered by no more than it holds. -/
theorem moved_neg_toNat {w : Word} {k : Nat} (h : k ≤ w.toNat) : (moved w (-k)).toNat = w.toNat - k := by
  have hw := w.isLt
  rw [moved, BitVec.toNat_ofInt]
  omega

theorem counted_counted (r : Byte) (m n : Nat) : counted (counted r m) n = counted r (m + n) := by
  have hr := r.isLt
  refine BitVec.eq_of_toNat_eq ?_
  simp only [counted, BitVec.toNat_ofNat]
  omega

theorem add_ofNat_succ_ne {k : Nat} (h : k + 1 < 65536) (w : Word) : w + BitVec.ofNat 16 (k + 1) ≠ w := by
  bv_omega

/-! ### RAM, with nothing requested (rules R62, R63, R402) -/

theorem State.byteAt_of_held {s : State} {addr : Word} (h : s.kindAt addr = .ram ∨ s.kindAt addr = .rom) :
    s.byteAt addr = (s.peek addr, s.history) := by
  rw [State.byteAt, State.readByte_of_held h]

theorem State.handed_of_ram {s : State} {addr : Word} (h : s.kindAt addr = .ram) (v : Byte) : s.handed addr v = [] :=
  if_neg (by simp [h])

/-- A byte stored where every address is RAM. -/
theorem StoresByte.peek_of_ram {s t : State} {addr : Word} {v : Byte} (h : StoresByte s t addr v)
    (hram : s.kindAt addr = .ram) : t.peek addr = v := by
  obtain ⟨⟨hsame, -⟩, -⟩ := h
  exact hsame hram

theorem State.runsNext_of_no_pins {s : State} (hp : s.pins = []) (hn : s.nmiPending = false)
    (hh : s.halted = false) : s.RunsNext := by
  have hq : s.nextPins = Pins.quiet := by rw [State.nextPins, hp]
  exact ⟨by rw [hq]; rfl, hn, by rw [hq]; rfl, .inl (by rw [hq]; rfl), hh⟩

/-- The run goes on from where a step ends. -/
theorem run_of_step {s t : State} (h : step s = .next t) (n : Nat) :
    Host.Core.run Sys2Proof.core (n + 1) s = Host.Core.run Sys2Proof.core n t := by
  have hstep : Sys2Proof.core.step s = .next t := h
  simp only [Host.Core.run, hstep]

/-! ### The block copied up to `n` bytes -/

/-- `LDIR` is about to copy `n` bytes: nothing is requested, and no byte written is one of its own or still to be
read. -/
structure State.CopyReady (s : State) (n : Nat) : Prop where
  allRam : s.AllRam
  noPins : s.pins = []
  noNmi : s.nmiPending = false
  running : s.halted = false
  canonical : Memory.wf s.mem = true
  holds : s.Holds s.pc [0xED, 0xB0]
  count : n = s.bc.toNat
  spares : ∀ k < n, ∀ i < 2, s.pc + BitVec.ofNat 16 i ≠ s.de + BitVec.ofNat 16 k
  ahead : ∀ j < n, ∀ k < j, s.hl + BitVec.ofNat 16 j ≠ s.de + BitVec.ofNat 16 k

/-- The state once `LDIR` has copied `n` bytes, but for memory, which is as given. -/
def State.copied (s : State) (n : Nat) (mem : Memory) : State :=
  let count := moved s.bc (-n)
  { s with
    b := hiByte count
    c := loByte count
    d := hiByte (moved s.de n)
    e := loByte (moved s.de n)
    h := hiByte (moved s.hl n)
    l := loByte (moved s.hl n)
    f := { s.f.redrawn (s.draws + (n - 1)) with pv := decide (count ≠ 0), h := false, n := false }
    draws := s.draws + n
    pc := if count ≠ 0 then s.pc else s.past [0xED, 0xB0]
    r := counted s.r (2 * n)
    eiShadow := false
    mem := mem
    tStates := s.tStates + 21 * (n - 1) + if count ≠ 0 then 21 else 16 }

/-- In `t` the first `n` bytes of the block are copied, and every other byte reads as in `s`. -/
structure CopiesBlock (s t : State) (n : Nat) : Prop where
  copies : ∀ k < n, t.peek (s.de + BitVec.ofNat 16 k) = s.peek (s.hl + BitVec.ofNat 16 k)
  others : ∀ addr, (∀ k < n, addr ≠ s.de + BitVec.ofNat 16 k) → t.peek addr = s.peek addr

@[simp] theorem State.copied_bc (s : State) (n : Nat) (mem : Memory) : (s.copied n mem).bc = moved s.bc (-n) :=
  joinBytes_hi_lo _

@[simp] theorem State.copied_de (s : State) (n : Nat) (mem : Memory) : (s.copied n mem).de = moved s.de n :=
  joinBytes_hi_lo _

@[simp] theorem State.copied_hl (s : State) (n : Nat) (mem : Memory) : (s.copied n mem).hl = moved s.hl n :=
  joinBytes_hi_lo _

theorem State.copied_one_de (s : State) (mem : Memory) : (s.copied 1 mem).de = s.de + 1 :=
  (s.copied_de 1 mem).trans (moved_one s.de)

theorem State.copied_one_hl (s : State) (mem : Memory) : (s.copied 1 mem).hl = s.hl + 1 :=
  (s.copied_hl 1 mem).trans (moved_one s.hl)

theorem State.copied_pc {s : State} {n : Nat} (h : moved s.bc (-n) ≠ 0) (mem : Memory) : (s.copied n mem).pc = s.pc :=
  if_pos h

/-- One byte and then `n` more are `n + 1`, if the count was not down to 0 after the one. -/
theorem State.copied_copied {s : State} {n : Nat} (hn : n ≠ 0) (hgo : moved s.bc (-(1 : Nat)) ≠ 0)
    (mem mem' : Memory) : (s.copied 1 mem).copied n mem' = s.copied (n + 1) mem' := by
  have hcount : moved (s.copied 1 mem).bc (-n) = moved s.bc (-(n + 1 : Nat)) := by
    rw [State.copied_bc, moved_moved]
    congr 1
    omega
  have hup : ∀ w : Word, moved (moved w (1 : Nat)) n = moved w (n + 1 : Nat) := fun w => by
    rw [moved_moved]
    congr 1
    omega
  have hpc := State.copied_pc hgo mem
  have hpast : (s.copied 1 mem).past [0xED, 0xB0] = s.past [0xED, 0xB0] := by rw [State.past, State.past, hpc]
  have htime : (s.copied 1 mem).tStates + 21 * (n - 1) = s.tStates + 21 * (n + 1 - 1) := by
    have hone : (s.copied 1 mem).tStates = s.tStates + 21 := congrArg (s.tStates + ·) (if_pos hgo)
    omega
  have hfree : (s.copied 1 mem).draws + (n - 1) = s.draws + (n + 1 - 1) := by
    show s.draws + 1 + (n - 1) = _
    omega
  have hdraws : (s.copied 1 mem).draws + n = s.draws + (n + 1) := Nat.add_right_comm s.draws 1 n
  have hr : counted (s.copied 1 mem).r (2 * n) = counted s.r (2 * (n + 1)) :=
    (counted_counted s.r 2 (2 * n)).trans (congrArg (counted s.r) (Nat.add_comm 2 (2 * n)))
  rw [State.copied, hcount, State.copied_de, State.copied_hl, hup, hup, hpc, hpast, htime, hfree, hdraws, hr]
  rfl

/-! ### One iteration, and the run (rules R238, R465, R475) -/

theorem State.atFetch_of_no_pins {s : State} (h : s.pins = []) : s.atFetch = { s with eiShadow := false } := by
  simp [State.atFetch, h]

theorem instrTStates_ldir (t : State) : instrTStates .ldir t = if t.bc ≠ 0 then 21 else 16 := by
  have h : instrTStates .ldir t = if (t.bc != 0) = true then 21 else 16 := rfl
  simpa only [bne_iff_ne] using h

/-- `LDIR` executed where every address is RAM: a byte is copied, and nothing else is done to memory. -/
theorem exec_ldir_of_allRam {s : State} (hram : s.AllRam) (hw : Memory.wf s.mem = true) :
    ∃ t, exec .ldir s = .next t ∧ StoresByte s t s.de (s.peek s.hl) ∧ Memory.wf t.mem = true ∧
      ({ t with tStates := t.tStates + instrTStates .ldir t } : State) =
        { s.copied 1 t.mem with r := s.r, eiShadow := s.eiShadow } := by
  have hkind := State.kindAt_of_no_region hram
  obtain ⟨t, ⟨-, hexec⟩, ht, hstores⟩ := blockMoves s hw ⟨.ldir, [0xED, 0xB0], (1, true)⟩ (by simp)
  have hcanonical : Memory.wf t.mem = true := by
    obtain rfl : s.moveRepeat .up = t := Host.Outcome.next.inj hexec
    exact (s.moveRepeat_untouched .up).canonical hw
  rw [State.byteAt_of_held (.inl (hkind _))] at ht hstores
  refine ⟨t, hexec, hstores, hcanonical, ?_⟩
  have hbc : t.bc = moved s.bc (-1) := by
    rw [ht]
    exact joinBytes_hi_lo _
  rw [instrTStates_ldir, hbc, ht]
  simp only [State.handed_of_ram (hkind _), true_and, List.nil_append]
  rfl

/-- One step copies one byte. -/
theorem State.CopyReady.step {s : State} {n : Nat} (h : s.CopyReady n) :
    ∃ t, step s = .next t ∧ t = s.copied 1 t.mem ∧ StoresByte s t s.de (s.peek s.hl) ∧ Memory.wf t.mem = true := by
  have hkind := State.kindAt_of_no_region h.allRam
  obtain ⟨t, hexec, hstep⟩ := aStepRunsTheInstructionInMemory s .ldir rfl
    (State.runsNext_of_no_pins h.noPins h.noNmi h.running) h.holds fun k _ => .inl (hkind _)
  rw [State.atFetch_of_no_pins h.noPins] at hexec
  obtain ⟨t', hexec', hstores, hcanonical, hcopied⟩ :=
    exec_ldir_of_allRam (s := { s with eiShadow := false, r := counted s.r 2 }) h.allRam h.canonical
  obtain rfl : t = t' := Host.Outcome.next.inj (hexec.symm.trans hexec')
  exact ⟨_, hstep, hcopied, hstores, hcanonical⟩

theorem State.CopyReady.count_lt {s : State} {n : Nat} (h : s.CopyReady n) : n < 65536 := h.count ▸ s.bc.isLt

/-- The count after one of several bytes. -/
theorem State.CopyReady.count_next {s : State} {n : Nat} (h : s.CopyReady (n + 1)) :
    (moved s.bc (-(1 : Nat))).toNat = n := by
  have hcount := h.count
  rw [moved_neg_toNat (by omega)]
  omega

theorem State.CopyReady.goesOn {s : State} {n : Nat} (h : s.CopyReady (n + 1)) (hn : n ≠ 0) :
    moved s.bc (-(1 : Nat)) ≠ 0 := fun h0 => hn (by rw [← h.count_next, h0]; rfl)

/-- After one of several bytes `LDIR` is about to copy the others: it has overwritten neither itself nor them. -/
theorem State.CopyReady.next {s t : State} {n : Nat} (h : s.CopyReady (n + 1)) (hn : n ≠ 0)
    (ht : t = s.copied 1 t.mem) (hstores : StoresByte s t s.de (s.peek s.hl)) (hw : Memory.wf t.mem = true) :
    t.CopyReady n := by
  obtain ⟨-, hother⟩ := hstores
  have hpc : t.pc = s.pc := by rw [ht]; exact State.copied_pc (h.goesOn hn) _
  have hde : t.de = s.de + 1 := (congrArg State.de ht).trans (s.copied_one_de t.mem)
  have hhl : t.hl = s.hl + 1 := (congrArg State.hl ht).trans (s.copied_one_hl t.mem)
  constructor
  case allRam => rw [ht]; exact h.allRam
  case noPins => rw [ht]; exact h.noPins
  case noNmi => rw [ht]; exact h.noNmi
  case running => rw [ht]; exact h.running
  case canonical => exact hw
  case count => rw [ht, State.copied_bc, h.count_next]
  case holds =>
    intro i hi
    rw [hpc, hother _ (by simpa using h.spares 0 n.succ_pos i hi)]
    exact h.holds i hi
  case spares =>
    intro k hk i hi
    rw [hpc, hde, ← add_ofNat_succ]
    exact h.spares (k + 1) (Nat.succ_lt_succ hk) i hi
  case ahead =>
    intro j hj k hk
    rw [hde, hhl, ← add_ofNat_succ, ← add_ofNat_succ]
    exact h.ahead (j + 1) (Nat.succ_lt_succ hj) (k + 1) (Nat.succ_lt_succ hk)

/-- One byte stored is a block of one copied. -/
theorem CopiesBlock.one {s t : State} (hram : s.AllRam) (hstores : StoresByte s t s.de (s.peek s.hl)) :
    CopiesBlock s t 1 where
  copies k hk := by
    obtain rfl : k = 0 := Nat.lt_one_iff.1 hk
    simpa using hstores.peek_of_ram (State.kindAt_of_no_region hram _)
  others addr ha := hstores.2 addr (by simpa using ha 0 Nat.one_pos)

/-- One byte copied and then `n` more are `n + 1`: none of the `n` is written where the one was, and none is read where
the one was written. -/
theorem CopiesBlock.cons {s t u : State} {n : Nat} (h : s.CopyReady (n + 1)) (ht : t = s.copied 1 t.mem)
    (hfirst : CopiesBlock s t 1) (hrest : CopiesBlock t u n) : CopiesBlock s u (n + 1) := by
  have hde : t.de = s.de + 1 := (congrArg State.de ht).trans (s.copied_one_de t.mem)
  have hhl : t.hl = s.hl + 1 := (congrArg State.hl ht).trans (s.copied_one_hl t.mem)
  refine ⟨fun k hk => ?_, fun addr ha => ?_⟩
  · cases k with
    | zero =>
      rw [hrest.others, hfirst.copies 0 Nat.one_pos]
      intro j hj
      rw [hde, ← add_ofNat_succ, BitVec.add_zero]
      exact (add_ofNat_succ_ne ((Nat.succ_lt_succ hj).trans h.count_lt) s.de).symm
    | succ k =>
      have hcopied := hrest.copies k (Nat.lt_of_succ_lt_succ hk)
      rw [hde, hhl, ← add_ofNat_succ, ← add_ofNat_succ] at hcopied
      rw [hcopied]
      refine hfirst.others _ fun j hj => ?_
      exact h.ahead (k + 1) hk j (hj.trans_le k.succ_pos)
  · rw [hrest.others, hfirst.others addr fun j hj => ha j (hj.trans_le n.succ_pos)]
    intro j hj
    rw [hde, ← add_ofNat_succ]
    exact ha (j + 1) (Nat.succ_lt_succ hj)

/-- `n` steps copy `n` bytes. -/
theorem run_of_copyReady {n : Nat} {s : State} (h : s.CopyReady n) (hn : n ≠ 0) :
    ∃ t : State, Host.Core.run Sys2Proof.core n s = .next t ∧ t = s.copied n t.mem ∧ CopiesBlock s t n := by
  induction n generalizing s with
  | zero => exact absurd rfl hn
  | succ n ih =>
    obtain ⟨t, hstep, ht, hstores, hw⟩ := h.step
    have hfirst := CopiesBlock.one h.allRam hstores
    rw [run_of_step hstep]
    by_cases hlast : n = 0
    · subst hlast
      exact ⟨t, rfl, ht, hfirst⟩
    · obtain ⟨u, hrun, hu, hrest⟩ := ih (h.next hlast ht hstores hw) hlast
      refine ⟨u, hrun, ?_, CopiesBlock.cons h ht hfirst hrest⟩
      rw [← State.copied_copied hlast (h.goesOn hlast) t.mem, ← ht]
      exact hu

/-- Settles O38: after `BC` iterations the count is 0, so the last has moved past the instruction. -/
theorem repeatedMoveCopiesTheBlock : Obligations.RepeatedMoveCopiesTheBlock := by
  intro s n hram hpins hruns hw hholds hcount hn hspares hahead
  have hready : s.CopyReady n :=
    { allRam := hram, noPins := hpins, noNmi := hruns.noNmi, running := hruns.running, canonical := hw, holds := hholds,
      count := hcount, ahead := hahead
      spares := fun k hk i hi => by
        obtain ⟨hfirst, hsecond⟩ := hspares k hk
        interval_cases i
        · simpa using hfirst.symm
        · exact hsecond.symm }
  obtain ⟨t, hrun, ht, hcopies⟩ := run_of_copyReady hready hn
  have hend : moved s.bc (-n) = 0 := BitVec.eq_of_toNat_eq (by
    rw [moved_neg_toNat hcount.le, hcount]
    exact Nat.sub_self _)
  refine ⟨t, hrun, ?_, hcopies.copies, hcopies.others⟩
  rw [State.copied, hend] at ht
  exact ht

end Sys2Proof.Machine
end

section
/-! SUPPORT. System control: each meaning is its write to the interrupt state or to the halt and the move of `PC`
(44_system.md rules R250 to R254). -/

namespace Sys2Proof.Machine

/-- Moving past an instruction of one byte. -/
theorem State.advance_one_eq (op : Byte) (s : State) : s.advance 1 = { s with pc := s.past [op] } :=
  State.advance_eq (List.length_singleton (a := op)) s

theorem State.disableInterrupts_eq (s : State) :
    s.disableInterrupts = { s with iff1 := false, iff2 := false, pc := s.past [0xF3] } :=
  State.advance_one_eq 0xF3 { s with iff1 := false, iff2 := false }

theorem State.enableInterrupts_eq (s : State) :
    s.enableInterrupts = { s with iff1 := true, iff2 := true, eiShadow := true, pc := s.past [0xFB] } :=
  State.advance_one_eq 0xFB { s with iff1 := true, iff2 := true, eiShadow := true }

/-- `PC` is left at the instruction after `HALT` (decision D14). -/
theorem State.halt_eq (s : State) : s.halt = { s with halted := true, pc := s.past [0x76] } :=
  State.advance_one_eq 0x76 { s with halted := true }

/-- Settles O43: `NOP` only moves `PC`; `DI`, `EI` and `HALT` besides write the fields their equations name; every form
of `IM` selects the mode listed for it. -/
theorem systemControlInstructions : Obligations.SystemControlInstructions := by
  refine fun s => ⟨⟨rfl, congrArg Host.Outcome.next (s.advance_one_eq 0x00)⟩,
    ⟨rfl, congrArg Host.Outcome.next s.disableInterrupts_eq⟩, ⟨rfl, congrArg Host.Outcome.next s.enableInterrupts_eq⟩,
    ⟨rfl, congrArg Host.Outcome.next s.halt_eq⟩, fun x hx => ?_⟩
  obtain ⟨hencode, hexec⟩ := modeForms_exec x hx
  exact Form.does_of_eq hencode (hexec s) (State.advance_eq rfl { s with im := x.operand })

end Sys2Proof.Machine
end

section
/-! SUPPORT. The exchanges and the stack: each operation is the reads and stores of its word, in the words of the claims,
and then a register written (45_exchange_stack.md rules R260 to R269). -/

namespace Sys2Proof.Machine

/-! ### Exchanges of registers (rules R260, R261, R264) -/

theorem State.exchangeAF_eq (s : State) :
    s.exchangeAF =
      { s with a := s.aShadow, f := s.fShadow, aShadow := s.a, fShadow := s.f, pc := s.past [0x08] } :=
  State.advance_one_eq 0x08 { s with a := s.aShadow, f := s.fShadow, aShadow := s.a, fShadow := s.f }

theorem State.exchangeDEHL_eq (s : State) :
    s.exchangeDEHL = { s with d := s.h, e := s.l, h := s.d, l := s.e, pc := s.past [0xEB] } :=
  State.advance_one_eq 0xEB { s with d := s.h, e := s.l, h := s.d, l := s.e }

theorem State.exchangeShadow_eq (s : State) :
    s.exchangeShadow = { s with
      b := s.bShadow, c := s.cShadow, d := s.dShadow, e := s.eShadow, h := s.hShadow, l := s.lShadow
      bShadow := s.b, cShadow := s.c, dShadow := s.d, eShadow := s.e, hShadow := s.h, lShadow := s.l
      pc := s.past [0xD9] } :=
  State.advance_one_eq 0xD9 { s with
    b := s.bShadow, c := s.cShadow, d := s.dShadow, e := s.eShadow, h := s.hShadow, l := s.lShadow
    bShadow := s.b, cShadow := s.c, dShadow := s.d, eShadow := s.e, hShadow := s.h, lShadow := s.l }

/-- Settles O44: each exchange writes the registers of its equation and moves `PC`. -/
theorem registerExchanges : Obligations.RegisterExchanges := fun s =>
  ⟨⟨rfl, congrArg Host.Outcome.next s.exchangeAF_eq⟩, ⟨rfl, congrArg Host.Outcome.next s.exchangeDEHL_eq⟩,
    ⟨rfl, congrArg Host.Outcome.next s.exchangeShadow_eq⟩⟩

/-! ### The exchange with the top of the stack (rules R262, R263) -/

/-- The stack's word store writes memory and the history, and nothing else. -/
theorem State.writeWordHighFirst_eq (addr w : Word) (s : State) :
    s.writeWordHighFirst addr w = { s with
      mem := (s.writeWordHighFirst addr w).mem
      history := s.handed addr (loByte w) ++ s.handed (addr + 1) (hiByte w) ++ s.history } := by
  apply State.ext <;> simp [State.writeWordHighFirst_history_eq]

/-- The register takes the word read at `SP`; what the stores leave in memory is `State.exchangeTop_stores`. -/
theorem State.exchangeTop_eq (r : Reg16) (bytes : List Byte) (s : State) :
    s.exchangeTop r bytes.length = State.setReg16 r (s.wordAt s.sp).1 { s with
      pc := s.past bytes
      mem := (s.exchangeTop r bytes.length).mem
      history := s.handed s.sp (loByte (s.reg16 r)) ++ s.handed (s.sp + 1) (hiByte (s.reg16 r)) ++
        (s.wordAt s.sp).2 } := by
  simp only [State.exchangeTop, State.readWord_of_wordAt, State.advance_mem, State.setReg16_mem]
  rw [State.advance_setReg16, State.writeWordHighFirst_eq]
  rfl

theorem State.exchangeTop_stores {s : State} (hw : Memory.wf s.mem = true) (r : Reg16) (len : Nat) :
    StoresWord s (s.exchangeTop r len) s.sp (s.reg16 r) := by
  simp only [State.exchangeTop, State.readWord_of_wordAt]
  have hstores := (State.two_writes_store (s := { s with history := (s.wordAt s.sp).2 }) hw s.sp (s.reg16 r)).2
  exact hstores.congr rfl rfl (by simp)

/-- Settles O45: every form is the exchange with the register listed for it. -/
theorem exchangesWithTheStackTop : Obligations.ExchangesWithTheStackTop := by
  intro s hw x hx
  obtain ⟨hencode, hexec, -⟩ := exchangeTopForms_exec x hx
  exact ⟨_, ⟨hencode, hexec s⟩, State.exchangeTop_eq x.operand x.bytes s,
    State.exchangeTop_stores hw x.operand x.bytes.length⟩

/-! ### Push and pop (rules R266 to R269) -/

/-- `PUSH` pushes the register, and control moves past the instruction. -/
theorem State.push_pushes {s : State} (hw : Memory.wf s.mem = true) (r : Reg16) (bytes : List Byte) :
    Pushes s (s.push r bytes.length) (s.reg16 r) (s.past bytes) := by
  have hpush : s.push r bytes.length = (s.push16 (s.reg16 r)).goto (s.past bytes) := by
    rw [State.past_eq, ← State.push16_pc (s.reg16 r) s]
    rfl
  rw [hpush]
  exact State.push16_pushes hw _ _

theorem State.pop_eq (r : Reg16) (bytes : List Byte) (s : State) :
    s.pop r bytes.length = State.setReg16 r (s.wordAt s.sp).1
      { s with sp := s.sp + 2, pc := s.past bytes, history := (s.wordAt s.sp).2 } := by
  simp only [State.pop, State.pop16_of_wordAt]
  exact State.advance_setReg16 r _ bytes _

/-- Settles O46: every form is the push or the pop of the register listed for it. -/
theorem pushAndPop : Obligations.PushAndPop := by
  refine fun s => ⟨fun hw x hx => ?_, fun x hx => ?_⟩
  · obtain ⟨hencode, hexec⟩ := pushForms_exec x hx
    exact ⟨_, ⟨hencode, hexec s⟩, State.push_pushes hw x.operand x.bytes⟩
  · obtain ⟨hencode, hexec, -⟩ := popForms_exec x hx
    exact Form.does_of_eq hencode (hexec s) (State.pop_eq x.operand x.bytes s)

end Sys2Proof.Machine
end

section
/-! SUPPORT. The loads: each operation is its reads or its stores, in the words of the claims, and then a register
written and `PC` moved (47_load.md rules R310 to R333). -/

namespace Sys2Proof.Machine

/-! ### Loads of a register (rules R310, R311, R319, R322) -/

/-- An 8-bit register written, and `PC` moved past the instruction. -/
theorem State.advance_setReg8 (r : Reg8) (v : Byte) (bytes : List Byte) (s : State) :
    (s.setReg8 r v).advance bytes.length = State.setReg8 r v { s with pc := s.past bytes } := by
  rw [State.past_eq]
  cases r <;> rfl

/-- Settles O9: every form writes the register listed for it and moves `PC`. -/
theorem byteRegisterLoadsCopy : Obligations.ByteRegisterLoadsCopy := by
  refine fun n s => ⟨fun x hx => ?_, fun x hx => ?_⟩
  · obtain ⟨hencode, hexec⟩ := registerLoadForms_exec x hx
    exact Form.does_of_eq hencode (hexec s) (State.advance_setReg8 x.operand.1 (s.reg8 x.operand.2) x.bytes s)
  · obtain ⟨hencode, hexec⟩ := immediateLoadForms_exec n x hx
    exact Form.does_of_eq hencode (hexec s) (State.advance_setReg8 x.operand n x.bytes s)

/-- Settles O12: every form writes the register listed for it and moves `PC`. -/
theorem wordRegisterLoadsCopy : Obligations.WordRegisterLoadsCopy := by
  intro nn s x hx
  obtain ⟨hencode, hexec⟩ := wordLoadForms_exec nn x hx
  exact Form.does_of_eq hencode (hexec s) (State.advance_setReg16 x.operand.1 (x.operand.2 s) x.bytes s)

/-! ### Loads from memory (rules R312, R315, R316, R320) -/

theorem State.ldFromMem_eq (dst : Reg8) (addr : Word) (bytes : List Byte) (s : State) :
    s.ldFromMem dst addr bytes.length =
      State.setReg8 dst (s.byteAt addr).1 { s with pc := s.past bytes, history := (s.byteAt addr).2 } := by
  simp only [State.ldFromMem, State.readByte_of_byteAt]
  exact State.advance_setReg8 dst _ bytes _

theorem State.ldWordFromMem_eq (dst : Reg16) (addr : Word) (bytes : List Byte) (s : State) :
    s.ldWordFromMem dst addr bytes.length =
      State.setReg16 dst (s.wordAt addr).1 { s with pc := s.past bytes, history := (s.wordAt addr).2 } := by
  simp only [State.ldWordFromMem, State.readWord_of_wordAt]
  exact State.advance_setReg16 dst _ bytes _

/-- Settles O10: every form is the load from the address listed for it. -/
theorem byteLoadsReadMemory : Obligations.ByteLoadsReadMemory := by
  intro d nn s x hx
  obtain ⟨hencode, hexec⟩ := byteLoadForms_exec d nn x hx
  exact Form.does_of_eq hencode (hexec s) (State.ldFromMem_eq x.operand.1 (x.operand.2 s) x.bytes s)

/-- Settles O13: every form loads the register listed for it with the word at `nn`. -/
theorem wordLoadsReadMemory : Obligations.WordLoadsReadMemory := by
  intro nn s x hx
  obtain ⟨hencode, hexec⟩ := wordFromMemoryForms_exec nn x hx
  exact Form.does_of_eq hencode (hexec s) (State.ldWordFromMem_eq x.operand nn x.bytes s)

/-! ### Stores to memory (rules R313, R314, R317, R318, R321) -/

/-- A byte store writes memory, the history and `PC`; what it leaves in memory is `State.ldToMem_stores`. -/
theorem State.ldToMem_eq (addr : Word) (v : Byte) (bytes : List Byte) (s : State) :
    s.ldToMem addr v bytes.length = { s with
      pc := s.past bytes
      mem := (s.ldToMem addr v bytes.length).mem
      history := s.handed addr v ++ s.history } := by
  simp only [State.ldToMem, State.advance_mem]
  rw [State.advance_eq rfl, State.writeByte_of_handed]
  rfl

theorem State.ldToMem_stores {s : State} (hw : Memory.wf s.mem = true) (addr : Word) (v : Byte) (len : Nat) :
    StoresByte s (s.ldToMem addr v len) addr v :=
  (State.writeByte_stores hw addr v).congr rfl rfl rfl

/-- Settles O11: every form stores the byte listed for it at the address listed for it. -/
theorem byteStoresWriteMemory : Obligations.ByteStoresWriteMemory := by
  intro n d nn s hw x hx
  obtain ⟨hencode, hexec⟩ := byteStoreForms_exec n d nn x hx
  exact ⟨_, ⟨hencode, hexec s⟩, State.ldToMem_eq (x.operand.1 s) (x.operand.2 s) x.bytes s,
    State.ldToMem_stores hw (x.operand.1 s) (x.operand.2 s) x.bytes.length⟩

/-- The word store writes memory and the history, and nothing else. -/
theorem State.writeWord_eq (addr w : Word) (s : State) :
    s.writeWord addr w = { s with
      mem := (s.writeWord addr w).mem
      history := s.handed (addr + 1) (hiByte w) ++ s.handed addr (loByte w) ++ s.history } := by
  apply State.ext <;> simp [State.writeWord_history_eq]

/-- A word store writes memory, the history and `PC`; what it leaves in memory is `State.ldWordToMem_stores`. -/
theorem State.ldWordToMem_eq (addr w : Word) (bytes : List Byte) (s : State) :
    s.ldWordToMem addr w bytes.length = { s with
      pc := s.past bytes
      mem := (s.ldWordToMem addr w bytes.length).mem
      history := s.handed (addr + 1) (hiByte w) ++ s.handed addr (loByte w) ++ s.history } := by
  simp only [State.ldWordToMem, State.advance_mem]
  rw [State.advance_eq rfl, State.writeWord_eq]
  rfl

theorem State.ldWordToMem_stores {s : State} (hw : Memory.wf s.mem = true) (addr w : Word) (len : Nat) :
    StoresWord s (s.ldWordToMem addr w len) addr w :=
  (State.two_writes_store hw addr w).1.congr rfl rfl rfl

/-- Settles O14: every form stores the register listed for it at `nn`. -/
theorem wordStoresWriteMemory : Obligations.WordStoresWriteMemory := by
  intro nn s hw x hx
  obtain ⟨hencode, hexec⟩ := wordToMemoryForms_exec nn x hx
  exact ⟨_, ⟨hencode, hexec s⟩, State.ldWordToMem_eq nn (s.reg16 x.operand) x.bytes s,
    State.ldWordToMem_stores hw nn (s.reg16 x.operand) x.bytes.length⟩

/-! ### `I` and `R` (rules R330 to R333) -/

/-- The flags of `LD A,I` and `LD A,R`: those of the byte, with `P/V` the interrupt enable. -/
theorem ldControlFlags_eq (v : Byte) (enabled : Bool) (old : Flags) (n : Nat) :
    (ldControlFlags v enabled old (freeFlagsAt n)).redrawn n = { parityFlags v false old.c n with pv := enabled } := by
  rw [← szpFlags_eq v false old.c old]
  rfl

theorem State.ldControl_eq {bytes : List Byte} (hlen : bytes.length = 2) (v : Byte) (s : State) :
    s.ldControl v = { s with
      a := v
      f := { parityFlags v false s.f.c s.draws with pv := s.iff2 }
      draws := s.draws + 1
      pc := s.past bytes } := by
  have hflags := ldControlFlags_eq v s.iff2 s.f s.draws
  rw [State.ldControl, State.writeFlags_of (s := { s with a := v }) hflags, State.advance_eq hlen]
  rfl

/-- Settles O15: the loads of `I` and `R` write them and move `PC`, and the loads from them are one operation. -/
theorem interruptPageAndRefreshLoads : Obligations.InterruptPageAndRefreshLoads := fun s =>
  ⟨⟨rfl, congrArg Host.Outcome.next (State.advance_eq (bytes := [0xED, 0x47]) rfl { s with i := s.a })⟩,
    ⟨rfl, congrArg Host.Outcome.next (State.advance_eq (bytes := [0xED, 0x4F]) rfl { s with r := s.a })⟩,
    ⟨rfl, congrArg Host.Outcome.next (State.ldControl_eq (bytes := [0xED, 0x57]) rfl s.i s)⟩,
    ⟨rfl, congrArg Host.Outcome.next (State.ldControl_eq (bytes := [0xED, 0x5F]) rfl s.r s)⟩⟩

end Sys2Proof.Machine
end

section
/-! SUPPORT. The rotates and shifts over numbers: a place to the left doubles, a place to the right halves, and a
decimal digit is four places (48_rotate_shift.md rules R350 to R363). -/

namespace Sys2Proof.Machine

/-! ### One place (rules R354 to R361) -/

/-- Two bit vectors side by side, as a number. -/
theorem toNat_append_eq {m n : Nat} (hi : BitVec m) (lo : BitVec n) :
    (hi ++ lo).toNat = hi.toNat * 2 ^ n + lo.toNat := by
  rw [BitVec.toNat_append, ← Nat.shiftLeft_add_eq_or_of_lt lo.isLt, Nat.shiftLeft_eq]

theorem shiftLeft_eq (v : Byte) (low : Bool) : shiftLeft v low = BitVec.ofNat 8 (2 * v.toNat % 256 + low.toNat) := by
  have hnat : (shiftLeft v low).toNat = v.toNat % 128 * 2 + low.toNat := by
    refine (toNat_append_eq _ _).trans ?_
    simp [BitVec.extractLsb'_toNat]
  have hlow := Bool.toNat_le low
  apply BitVec.eq_of_toNat_eq
  rw [hnat, BitVec.toNat_ofNat]
  omega

theorem shiftRight_eq (v : Byte) (high : Bool) :
    shiftRight v high = BitVec.ofNat 8 (v.toNat / 2 + 128 * high.toNat) := by
  have hv := v.isLt
  have hnat : (shiftRight v high).toNat = high.toNat * 128 + v.toNat / 2 % 128 := by
    refine (toNat_append_eq _ _).trans ?_
    simp [BitVec.extractLsb'_toNat, Nat.shiftRight_eq_div_pow]
  have hhigh := Bool.toNat_le high
  apply BitVec.eq_of_toNat_eq
  rw [hnat, BitVec.toNat_ofNat]
  omega

/-- The highest bit, as a number. -/
theorem byte_bit7_toNat (v : Byte) : (v.getLsbD 7).toNat = v.toNat / 128 := by
  have hv := v.isLt
  rw [BitVec.getLsbD, Nat.toNat_testBit]
  omega

/-- The lowest bit, as a number. -/
theorem byte_bit0_toNat (v : Byte) : (v.getLsbD 0).toNat = v.toNat % 2 := by
  rw [BitVec.getLsbD, Nat.toNat_testBit, pow_zero, Nat.div_one]

/-- The operand moved by one place, and the bit that leaves, as the claims compute them from the operand and the old
carry. -/
def ShiftKind.moved : ShiftKind → Nat → Nat → Nat × Nat
  | .rlc => fun v _ => (2 * v % 256 + v / 128, v / 128)
  | .rrc => fun v _ => (v / 2 + 128 * (v % 2), v % 2)
  | .rl => fun v c => (2 * v % 256 + c, v / 128)
  | .rr => fun v c => (v / 2 + 128 * c, v % 2)
  | .sla => fun v _ => (2 * v % 256, v / 128)
  | .sra => fun v _ => (v / 2 + 128 * (v / 128), v % 2)
  | .sll => fun v _ => (2 * v % 256 + 1, v / 128)
  | .srl => fun v _ => (v / 2, v % 2)

theorem ShiftKind.result_eq (k : ShiftKind) (v : Byte) (cin : Bool) :
    k.result v cin = BitVec.ofNat 8 (k.moved v.toNat cin.toNat).1 := by
  cases k with
  | rlc => rw [ShiftKind.result, shiftLeft_eq, byte_bit7_toNat]; rfl
  | rrc => rw [ShiftKind.result, shiftRight_eq, byte_bit0_toNat]; rfl
  | rl => exact shiftLeft_eq v cin
  | rr => exact shiftRight_eq v cin
  | sla => exact shiftLeft_eq v false
  | sra => rw [ShiftKind.result, shiftRight_eq, byte_bit7_toNat]; rfl
  | sll => exact shiftLeft_eq v true
  | srl => exact shiftRight_eq v false

/-- A bit is whether its number is 1. -/
theorem eq_decide_of_toNat_eq {b : Bool} {n : Nat} (h : b.toNat = n) : b = decide (n = 1) := by
  subst h
  cases b <;> rfl

theorem ShiftKind.carry_eq (k : ShiftKind) (v : Byte) (c : Nat) : k.carry v = decide ((k.moved v.toNat c).2 = 1) := by
  cases k with
  | rlc | rl | sla | sll => exact eq_decide_of_toNat_eq (byte_bit7_toNat v)
  | rrc | rr | sra | srl => exact eq_decide_of_toNat_eq (byte_bit0_toNat v)

/-! ### The accumulator (rules R350 to R353) -/

theorem State.rotateA_eq {bytes : List Byte} (hlen : bytes.length = 1) (k : ShiftKind) (s : State) :
    let moved := k.moved s.a.toNat s.f.c.toNat
    s.rotateA k = { s with
      a := BitVec.ofNat 8 moved.1
      f := { s.f.redrawn s.draws with h := false, n := false, c := decide (moved.2 = 1) }
      draws := s.draws + 1
      pc := s.past bytes } := by
  simp only [← ShiftKind.result_eq, ← ShiftKind.carry_eq, State.rotateA, State.advance_eq hlen]
  rfl

/-- Settles O28: each form is the rotation of `A` of its kind. -/
theorem accumulatorRotates : Obligations.AccumulatorRotates := by
  intro s a c
  refine forms_cons ⟨rfl, ?_⟩ (forms_cons ⟨rfl, ?_⟩ (forms_cons ⟨rfl, ?_⟩ (forms_cons ⟨rfl, ?_⟩
    (List.forall_mem_nil _))))
  · exact congrArg Host.Outcome.next (State.rotateA_eq rfl .rlc s)
  · exact congrArg Host.Outcome.next (State.rotateA_eq rfl .rl s)
  · exact congrArg Host.Outcome.next (State.rotateA_eq rfl .rrc s)
  · exact congrArg Host.Outcome.next (State.rotateA_eq rfl .rr s)

/-! ### An operand (rules R354 to R361) -/

theorem State.shiftPlace_replaces {s : State} (hw : Memory.wf s.mem = true) (k : ShiftKind) (p : Place8)
    (bytes : List Byte) :
    let moved := k.moved (s.placeRead p).1.toNat s.f.c.toNat
    let res : Byte := BitVec.ofNat 8 moved.1
    Replaces s (s.shiftPlace k p bytes.length) p res (parityFlags res false (decide (moved.2 = 1)) s.draws)
      (s.draws + 1) (s.past bytes) := by
  simp only [← ShiftKind.result_eq, ← ShiftKind.carry_eq, State.placeRead_eq]
  exact State.replacePlace_replaces (upd := fun old free => { szpFlags _ false old free with c := _ }) hw
    (szpFlags_eq _ false _ s.f s.draws) p _ bytes

/-- What the claim says of the forms of one kind, from their meaning. -/
theorem shiftForms_replace {s : State} (hw : Memory.wf s.mem = true) (k : ShiftKind) {forms : List (Form Place8)}
    (h : ∀ x ∈ forms, encode x.instr = x.bytes ∧
      ∀ s, exec x.instr s = .next (s.shiftPlace k x.operand x.bytes.length)) :
    ∀ x ∈ forms,
      let moved := k.moved (s.placeRead x.operand).1.toNat s.f.c.toNat
      let res : Byte := BitVec.ofNat 8 moved.1
      ∃ t, x.Does s t ∧
        Replaces s t x.operand res (parityFlags res false (decide (moved.2 = 1)) s.draws) (s.draws + 1) (x.past s) := by
  intro x hx
  obtain ⟨hencode, hexec⟩ := h x hx
  exact ⟨_, ⟨hencode, hexec s⟩, State.shiftPlace_replaces hw k x.operand x.bytes⟩

/-- Settles O29: the forms of each list are the shifts of one kind, over the operand listed for them. -/
theorem shiftsAndRotatesOfAnOperand : Obligations.ShiftsAndRotatesOfAnOperand := by
  intro d s hw
  simp only [List.forall_mem_cons]
  exact ⟨shiftForms_replace hw .rlc (rlcForms_exec d), shiftForms_replace hw .rl (rlForms_exec d),
    shiftForms_replace hw .rrc (rrcForms_exec d), shiftForms_replace hw .rr (rrForms_exec d),
    shiftForms_replace hw .sla (slaForms_exec d), shiftForms_replace hw .sll (sllForms_exec d),
    shiftForms_replace hw .sra (sraForms_exec d), shiftForms_replace hw .srl (srlForms_exec d),
    List.forall_mem_nil _⟩

/-! ### Decimal digits (rules R362, R363) -/

theorem highDigit_toNat (v : Byte) : (highDigit v).toNat = v.toNat / 16 := by
  have hv := v.isLt
  simp only [highDigit, BitVec.extractLsb'_toNat, Nat.shiftRight_eq_div_pow]
  omega

theorem lowDigit_toNat (v : Byte) : (lowDigit v).toNat = v.toNat % 16 := by
  simp [lowDigit, BitVec.extractLsb'_toNat]

/-- Two digits are the byte of this number, if it has them. -/
theorem digits_eq {high low : BitVec 4} {n : Nat} (h : high.toNat * 16 + low.toNat = n) :
    high ++ low = BitVec.ofNat 8 n := by
  have hhigh := high.isLt
  have hlow := low.isLt
  apply BitVec.eq_of_toNat_eq
  rw [toNat_append_eq, BitVec.toNat_ofNat]
  omega

/-- The 12-bit number `n` of `A`'s low digit and the byte at `HL`, rotated to the left: its low two digits are what
`RLD` leaves at `HL`, and its high digit is the new low digit of `A`. -/
theorem rld_eq {a m : Byte} {n : Nat} (hn : a.toNat % 16 * 256 + m.toNat = n) :
    rldMem a m = BitVec.ofNat 8 ((n * 16 % 4096 + n / 256) % 256) ∧
      rldA a m = BitVec.ofNat 8 (a.toNat / 16 * 16 + (n * 16 % 4096 + n / 256) / 256) := by
  have hm := m.isLt
  have hrotated : n * 16 % 4096 + n / 256 = m.toNat / 16 * 256 + (m.toNat % 16 * 16 + a.toNat % 16) := by omega
  rw [hrotated]
  constructor
  all_goals
    apply digits_eq
    simp only [highDigit_toNat, lowDigit_toNat]
    omega

/-- The same, rotated to the right: what `RRD` leaves. -/
theorem rrd_eq {a m : Byte} {n : Nat} (hn : a.toNat % 16 * 256 + m.toNat = n) :
    rrdMem a m = BitVec.ofNat 8 ((n / 16 + n % 16 * 256) % 256) ∧
      rrdA a m = BitVec.ofNat 8 (a.toNat / 16 * 16 + (n / 16 + n % 16 * 256) / 256) := by
  have hm := m.isLt
  have hrotated : n / 16 + n % 16 * 256 = m.toNat % 16 * 256 + (a.toNat % 16 * 16 + m.toNat / 16) := by omega
  rw [hrotated]
  constructor
  all_goals
    apply digits_eq
    simp only [highDigit_toNat, lowDigit_toNat]
    omega

/-- A digit rotate writes `A`, the flags, `PC`, memory and the history; what it leaves in memory is
`State.rotateDigits_stores`. -/
theorem State.rotateDigits_eq {bytes : List Byte} (hlen : bytes.length = 2) (newMem newA : Byte → Byte → Byte)
    (s : State) :
    let m := s.byteAt s.hl
    s.rotateDigits newMem newA = { s with
      a := newA s.a m.1
      f := parityFlags (newA s.a m.1) false s.f.c s.draws
      draws := s.draws + 1
      pc := s.past bytes
      mem := (s.rotateDigits newMem newA).mem
      history := s.handed s.hl (newMem s.a m.1) ++ m.2 } := by
  simp only [State.rotateDigits, State.writeFlags_szp, State.advance_eq hlen, State.readByte_of_byteAt]
  rw [State.writeByte_of_handed]
  rfl

theorem State.rotateDigits_stores {s : State} (hw : Memory.wf s.mem = true) (newMem newA : Byte → Byte → Byte) :
    StoresByte s (s.rotateDigits newMem newA) s.hl (newMem s.a (s.byteAt s.hl).1) := by
  have hstores := State.writeByte_stores (s := (s.readByte s.hl).2) (by simpa using hw) s.hl
    (newMem s.a (s.byteAt s.hl).1)
  exact hstores.congr (by simp) (by simp) rfl

/-- What the claim says of a digit rotate, from its two new bytes as digits of the rotated number. -/
theorem digitForm_rotates {s : State} (hw : Memory.wf s.mem = true) {x : Form Nat}
    {newMem newA : Byte → Byte → Byte} (hencode : encode x.instr = x.bytes)
    (hexec : exec x.instr s = .next (s.rotateDigits newMem newA)) (hlen : x.bytes.length = 2)
    (hnew : newMem s.a (s.byteAt s.hl).1 = BitVec.ofNat 8 (x.operand % 256) ∧
      newA s.a (s.byteAt s.hl).1 = BitVec.ofNat 8 (s.a.toNat / 16 * 16 + x.operand / 256)) :
    let a : Byte := BitVec.ofNat 8 (s.a.toNat / 16 * 16 + x.operand / 256)
    let left : Byte := BitVec.ofNat 8 (x.operand % 256)
    ∃ t, x.Does s t ∧
      t = { s with
        a := a
        f := parityFlags a false s.f.c s.draws
        draws := s.draws + 1
        pc := x.past s
        mem := t.mem
        history := s.handed s.hl left ++ (s.byteAt s.hl).2 } ∧
      StoresByte s t s.hl left := by
  obtain ⟨hmem, ha⟩ := hnew
  rw [← hmem, ← ha]
  exact ⟨_, ⟨hencode, hexec⟩, State.rotateDigits_eq hlen newMem newA s, State.rotateDigits_stores hw newMem newA⟩

/-- Settles O30: the two forms are the digit rotates, to the left and to the right. -/
theorem decimalDigitRotates : Obligations.DecimalDigitRotates := by
  intro s hw hl m number
  refine forms_cons ?_ (forms_cons ?_ (List.forall_mem_nil _))
  · exact digitForm_rotates hw rfl rfl rfl (rld_eq rfl)
  · exact digitForm_rotates hw rfl rfl rfl (rrd_eq rfl)

end Sys2Proof.Machine
end

section
/-! SUPPORT. What comes first at a boundary, one equation per outcome of a step but the instruction's, which is
`step_of_runsNext`; the `EI` shadow; and the idle steps of a halted CPU (60_exceptions.md rules R402, R409, R411, R440,
R441; 70_reset_and_hazards.md rule R450). -/

namespace Sys2Proof.Machine

/-! ### The outcomes of a boundary (rules R402, R409) -/

theorem step_of_reset {s : State} (h : s.nextPins.reset = true) : step s = .next s.samplePins.doReset := by
  rcases step_cases s with ⟨-, e⟩ | ⟨hr, -⟩
  · exact e
  · simp [h] at hr

theorem step_of_nmi {s : State} (hr : s.nextPins.reset = false) (h : s.nmiPending = true ∨ s.nextPins.nmiEdge = true) :
    step s = .next (s.pastBoundary.acceptNmi.elapse nmiTStates) := by
  have hnmi : (s.nmiPending || s.nextPins.nmiEdge) = true := by simpa using h
  rcases step_cases s with ⟨hr', -⟩ | ⟨-, ⟨-, e⟩ | ⟨hn, -⟩⟩
  · simp [hr] at hr'
  · exact e
  · simp [hnmi] at hn

theorem State.MaskableDue.step {s : State} (h : s.MaskableDue) :
    step s = State.acceptInt s.nextPins.intData (s.atFetch.elapse (acceptanceTStates s.im)) := by
  have hnmi : (s.nmiPending || s.nextPins.nmiEdge) = false := by simp [h.noNmi, h.noEdge]
  rcases step_cases s with ⟨hr, -⟩ | ⟨-, ⟨hn, -⟩ | ⟨-, ⟨-, e⟩ | ⟨hi, -⟩⟩⟩
  · simp [h.noReset] at hr
  · simp [hnmi] at hn
  · rw [e, State.pastBoundary_of_no_nmi hnmi]
  · simp [h.requested, h.enabled, h.noShadow] at hi

theorem step_of_halted {s : State} (hh : s.halted = true) (hr : s.nextPins.reset = false)
    (hn : s.nmiPending = false) (he : s.nextPins.nmiEdge = false)
    (hi : s.nextPins.intLine = false ∨ s.iff1 = false ∨ s.eiShadow = true) :
    step s = .next ((s.atFetch.countFetches 1).elapse idleTStates) := by
  have hnmi : (s.nmiPending || s.nextPins.nmiEdge) = false := by simp [hn, he]
  have hint : (s.nextPins.intLine && s.iff1 && !s.eiShadow) = false := by
    rcases hi with e | e | e <;> simp [e]
  rcases step_cases s with ⟨hr', -⟩ | ⟨-, ⟨hn', -⟩ | ⟨-, ⟨hi', -⟩ | ⟨-, ⟨-, e⟩ | ⟨hh', -⟩⟩⟩⟩
  · simp [hr] at hr'
  · simp [hnmi] at hn'
  · simp [hint] at hi'
  · rw [e, State.pastBoundary_of_no_nmi hnmi]
  · simp [hh] at hh'

/-- Settles O47: with what was fetched and what it decodes to known, the step is `step_of_fetch`. -/
theorem aStepRunsTheDecodedInstruction : Obligations.AStepRunsTheDecodedInstruction := by
  intro s t i rest hs hd ht
  obtain ⟨u, hu, hstep⟩ := step_of_fetch hs rfl hd
  obtain rfl : t = u := Host.Outcome.next.inj (ht.symm.trans hu)
  exact hstep

/-- Settles O50: reset is the first test of a boundary, and clears the latch that the boundary may have set. -/
theorem resetComesFirst : Obligations.ResetComesFirst := fun _ => step_of_reset

/-! ### The `EI` shadow (rules R402, R411) -/

/-- Under the shadow the request line is not looked at. -/
theorem State.afterReset_of_shadow {s : State} (h : s.eiShadow = true) (p : Pins) :
    s.afterReset p = s.afterReset { p with intLine := false } := by
  simp [State.afterReset, h]

/-- Only `EI` leaves the shadow where there was none. -/
theorem exec_eiShadow {i : Instr} {s t : State} (h : exec i s = .next t) : i = .ei ∨ t.eiShadow = s.eiShadow := by
  rcases exec_cases h with hk | hk
  · exact .inr hk.eiShadow
  · cases hk with
    | ei => exact .inl rfl
    | exAF | exx | di | halt | im0 | im1 | im2 => exact .inr rfl
    | reti | retn => exact .inr s.pop16_untouched.eiShadow

/-- Settles O53: past the boundary the two states are one, and the request line is all that differs. Every outcome of a
step but an instruction leaves the shadow clear, and every instruction starts with it clear. -/
theorem enableTakesEffectOneInstructionLater : Obligations.EnableTakesEffectOneInstructionLater := by
  refine ⟨fun s p later hpins hshadow => ?_, fun s t h hshadow => ?_⟩
  · have hnext : s.nextPins = p := by rw [State.nextPins, hpins]
    have hsample : State.samplePins { s with pins := { p with intLine := false } :: later } = s.samplePins := by
      simp [State.samplePins, State.nextPins, hpins]
    have hshadow' : s.samplePins.eiShadow = true := hshadow
    show s.boundary = State.boundary _
    rw [State.boundary, State.boundary, hsample, hnext, State.afterReset_of_shadow hshadow']
    rfl
  · have hclear : t.eiShadow ≠ false := by simp [hshadow]
    cases step_outcome h with
    | reset _ state => exact absurd (congrArg State.eiShadow state) hclear
    | nmi left | interrupt left | idle left => exact absurd left.eiShadow hclear
    | instruction runs decoded fetched executed timed =>
      rcases exec_eiShadow executed with rfl | hkept
      · exact ⟨runs, _, List.mem_singleton_self _, _, decoded⟩
      · exact absurd (timed.eiShadow.trans (hkept.trans fetched.eiShadow)) hclear

/-! ### Idle steps (rules R440, R441) -/

/-- The state after `n` idle steps. -/
def State.idled (s : State) (n : Nat) : State :=
  { s with
    pins := s.pins.drop n
    eiShadow := s.eiShadow && decide (n = 0)
    r := counted s.r n
    tStates := s.tStates + 4 * n }

theorem counted_zero (r : Byte) : counted r 0 = r := by
  have hr := r.isLt
  apply BitVec.eq_of_toNat_eq
  rw [counted, BitVec.toNat_ofNat]
  omega

theorem State.idled_zero (s : State) : s.idled 0 = s := by
  simp [State.idled, counted_zero]

theorem State.idled_one (s : State) : s.idled 1 = (s.atFetch.countFetches 1).elapse idleTStates := by
  simp only [State.idled, counted_eq, List.drop_one, Nat.one_ne_zero, decide_false, Bool.and_false]
  rfl

/-- One idle step and then `n` more are `n + 1`. -/
theorem State.idled_idled (s : State) (n : Nat) : (s.idled 1).idled n = s.idled (n + 1) := by
  have htime : s.tStates + 4 * 1 + 4 * n = s.tStates + 4 * (n + 1) := by omega
  simp [State.idled, counted_counted, htime, Nat.add_comm 1 n]

/-- Settles O54: with nothing accepted the step idles, once. -/
theorem haltedStepIdles : Obligations.HaltedStepIdles := by
  intro s hh hr hn he hi
  rw [step_of_halted hh hr hn he hi, ← State.idled_one]
  simp [State.idled]

/-- The coming boundary of a quiet schedule asks for nothing, also once the schedule is used up. -/
theorem State.nextPins_of_quiet {s : State} (h : quietSchedule s.pins) :
    s.nextPins.reset = false ∧ s.nextPins.nmiEdge = false := by
  unfold State.nextPins
  cases hp : s.pins with
  | nil => exact ⟨rfl, rfl⟩
  | cons p rest => exact h p (by simp [hp])

theorem State.Terminal.step {s : State} (h : s.Terminal) : step s = .next (s.idled 1) := by
  obtain ⟨hreset, hedge⟩ := State.nextPins_of_quiet h.quiet
  rw [step_of_halted h.halted hreset h.noNmi hedge (.inr (.inl h.disabled)), State.idled_one]

theorem State.Terminal.idled {s : State} (h : s.Terminal) (n : Nat) : (s.idled n).Terminal where
  halted := h.halted
  disabled := h.disabled
  noNmi := h.noNmi
  quiet := fun p hp => h.quiet p (List.mem_of_mem_drop hp)

/-- Settles O55, by induction on the number of steps: a step of a terminal state idles, and ends in a terminal state. -/
theorem terminalStateNeverEnds : Obligations.TerminalStateNeverEnds := by
  intro n
  induction n with
  | zero => exact fun s _ => congrArg Host.Outcome.next s.idled_zero.symm
  | succ n ih =>
    intro s h
    calc Host.Core.run Sys2Proof.core (n + 1) s
      _ = Host.Core.run Sys2Proof.core n (s.idled 1) := run_of_step h.step n
      _ = .next ((s.idled 1).idled n) := ih _ (h.idled 1)
      _ = .next (s.idled (n + 1)) := by rw [State.idled_idled]

end Sys2Proof.Machine
end

section
/-! SUPPORT. The acceptances: each is a push of `PC` from the state that the claims name (60_exceptions.md rules R404 to
R408, R412). -/

namespace Sys2Proof.Machine

/-- Time may be counted before a push or after it. -/
theorem Pushes.elapse {s t : State} {w pc : Word} (h : Pushes s t w pc) (n : Nat) :
    Pushes (s.elapse n) (t.elapse n) w pc := by
  obtain ⟨ht, hstores⟩ := h
  exact ⟨congrArg (State.elapse n) ht, hstores.congr rfl rfl rfl⟩

theorem State.enterHandler_pushes {s : State} (hw : Memory.wf s.mem = true) (handler : Word) :
    Pushes s.beginInterrupt (s.enterHandler handler) s.pc handler :=
  State.push16_pushes (s := s.beginInterrupt) hw s.pc handler

/-- What the claims call interrupted: the boundary passed, and what every acceptance does before control moves. -/
theorem State.interrupted_eq (s : State) : s.interrupted = s.atFetch.beginInterrupt := by
  rw [State.interrupted, counted_eq]
  rfl

/-! ### The NMI (rule R408) -/

theorem State.acceptNmi_pushes {s : State} (hw : Memory.wf s.mem = true) :
    Pushes ({ s with nmiPending := false } : State).beginInterrupt s.acceptNmi s.pc 0x0066 :=
  State.enterHandler_pushes (s := { s with nmiPending := false }) hw Config.nmiVector

/-- The latch cleared and time counted: the state an NMI's push starts from, as the claim names it and as the acceptance
computes it. -/
theorem State.nmiTaken_eq (s : State) (n : Nat) :
    ({ s.interrupted with nmiPending := false, tStates := s.tStates + n } : State) =
      State.elapse n ({ s.pastBoundary with nmiPending := false } : State).beginInterrupt := by
  have hlatch : ({ s.pastBoundary with nmiPending := false } : State) = { s.atFetch with nmiPending := false } := rfl
  rw [State.interrupted_eq, hlatch]
  rfl

theorem State.nmiHandler_pushes {s : State} (hw : Memory.wf s.mem = true) (n : Nat) :
    Pushes { s.interrupted with nmiPending := false, tStates := s.tStates + n } (s.pastBoundary.acceptNmi.elapse n)
      s.pc 0x0066 := by
  rw [State.nmiTaken_eq]
  exact (State.acceptNmi_pushes (s := s.pastBoundary) hw).elapse n

/-- Settles O51: the acceptance enters the handler with the latch cleared, whatever set it. -/
theorem nonMaskableInterruptIsTaken : Obligations.NonMaskableInterruptIsTaken := fun _ hw hr hnmi =>
  ⟨_, step_of_nmi hr hnmi, State.nmiHandler_pushes hw nmiTStates⟩

/-! ### Maskable interrupts (rules R404 to R407) -/

/-- The `RST` opcodes are `C7 + 8y`. -/
theorem isRestartOpcode_iff : ∀ op : BitVec 8,
    isRestartOpcode op = true ↔ ∃ y < 8, op = BitVec.ofNat 8 (0xC7 + 8 * y) := by decide

/-- The target of a supplied `RST`. -/
theorem restartTarget_eq : ∀ y < 8,
    (BitVec.ofNat 8 (0xC7 + 8 * y) &&& 0x38).setWidth 16 = BitVec.ofNat 16 (8 * y) := by decide

theorem State.acceptInt_of_mode1 {s : State} (h : s.im = .mode1) (data : Byte) :
    s.acceptInt data = .next s.acceptMode1 := by
  simp only [State.acceptInt, h]

theorem State.acceptInt_of_mode2 {s : State} (h : s.im = .mode2) (data : Byte) :
    s.acceptInt data = .next (s.acceptMode2 data) := by
  simp only [State.acceptInt, h]

theorem State.acceptInt_of_mode0 {s : State} (h : s.im = .mode0) (data : Byte) :
    s.acceptInt data = s.acceptMode0 data := by
  simp only [State.acceptInt, h]

/-- The step accepts the interrupt past the boundary, the time of the mode counted. -/
theorem State.MaskableDue.step_of_mode {s : State} {mode : IntMode} (h : s.MaskableDue) (hm : s.im = mode) :
    let start := s.atFetch.elapse (acceptanceTStates mode)
    Machine.step s = start.acceptInt s.nextPins.intData ∧ start.im = mode := by
  subst hm
  exact ⟨h.step, rfl⟩

/-- In mode 2 the handler's address is read from the state that the push leaves. -/
theorem State.acceptMode2_eq (data : Byte) (s : State) :
    let pushed := State.push16 s.pc ({ s with iff2 := false } : State).beginInterrupt
    s.acceptMode2 data = { pushed with
      pc := (pushed.wordAt (joinBytes s.i data)).1
      history := (pushed.wordAt (joinBytes s.i data)).2 } := by
  simp only [State.acceptMode2, State.readWord_of_wordAt]
  rfl

/-- A push leaves `PC` where it is. -/
theorem State.push16_pushes_at_pc {s : State} (hw : Memory.wf s.mem = true) (w : Word) :
    Pushes s (s.push16 w) w s.pc := by
  have hgoto : (s.push16 w).goto s.pc = s.push16 w := by
    rw [← State.push16_pc w s]
    rfl
  rw [← hgoto]
  exact State.push16_pushes hw w s.pc

/-- Both enables cleared and time counted: the state a maskable interrupt's push starts from, as the claim names it and
as the acceptances compute it. -/
theorem State.maskableTaken_eq (s : State) (n : Nat) :
    ({ s.interrupted with iff2 := false, tStates := s.tStates + n } : State) =
      ({ s.atFetch.elapse n with iff2 := false } : State).beginInterrupt := by
  rw [State.interrupted_eq]
  rfl

/-- Entering a handler is a push and the jump to it; modes 0 and 1 do no more. -/
theorem State.maskableHandler_pushes {s : State} (hw : Memory.wf s.mem = true) (n : Nat) (handler : Word) :
    Pushes { s.interrupted with iff2 := false, tStates := s.tStates + n }
      (State.enterHandler handler { s.atFetch.elapse n with iff2 := false }) s.pc handler := by
  rw [State.maskableTaken_eq]
  exact State.enterHandler_pushes (s := { s.atFetch.elapse n with iff2 := false }) hw handler

/-- The push of mode 2, before the jump. -/
theorem State.maskablePush_pushes {s : State} (hw : Memory.wf s.mem = true) (n : Nat) :
    Pushes { s.interrupted with iff2 := false, tStates := s.tStates + n }
      (State.push16 s.pc ({ s.atFetch.elapse n with iff2 := false } : State).beginInterrupt) s.pc s.pc := by
  rw [State.maskableTaken_eq]
  exact State.push16_pushes_at_pc (s := ({ s.atFetch.elapse n with iff2 := false } : State).beginInterrupt) hw s.pc

theorem State.MaskableDue.step_mode1 {s : State} (h : s.MaskableDue) (hw : Memory.wf s.mem = true)
    (hm : s.im = .mode1) :
    ∃ t, Machine.step s = .next t ∧
      Pushes { s.interrupted with iff2 := false, tStates := s.tStates + 13 } t s.pc 0x0038 := by
  obtain ⟨hstep, him⟩ := h.step_of_mode hm
  rw [State.acceptInt_of_mode1 him] at hstep
  exact ⟨_, hstep, State.maskableHandler_pushes hw (acceptanceTStates .mode1) Config.im1Vector⟩

theorem State.MaskableDue.step_mode2 {s : State} (h : s.MaskableDue) (hw : Memory.wf s.mem = true)
    (hm : s.im = .mode2) :
    ∃ t u, Pushes { s.interrupted with iff2 := false, tStates := s.tStates + 19 } u s.pc s.pc ∧
      t = { u with
        pc := (u.wordAt (joinBytes s.i s.nextPins.intData)).1
        history := (u.wordAt (joinBytes s.i s.nextPins.intData)).2 } ∧
      Machine.step s = .next t := by
  obtain ⟨hstep, him⟩ := h.step_of_mode hm
  rw [State.acceptInt_of_mode2 him, State.acceptMode2_eq] at hstep
  exact ⟨_, _, State.maskablePush_pushes hw (acceptanceTStates .mode2), rfl, hstep⟩

theorem State.MaskableDue.step_mode0_restart {s : State} (h : s.MaskableDue) (hw : Memory.wf s.mem = true)
    (hm : s.im = .mode0) {y : Nat} (hy : y < 8) (hdata : s.nextPins.intData = BitVec.ofNat 8 (0xC7 + 8 * y)) :
    ∃ t, Machine.step s = .next t ∧
      Pushes { s.interrupted with iff2 := false, tStates := s.tStates + Config.modeZeroTStates } t s.pc
        (BitVec.ofNat 16 (8 * y)) := by
  obtain ⟨hstep, him⟩ := h.step_of_mode hm
  have hrestart := (isRestartOpcode_iff s.nextPins.intData).2 ⟨y, hy, hdata⟩
  rw [State.acceptInt_of_mode0 him, State.acceptMode0, if_pos hrestart, hdata, restartTarget_eq y hy] at hstep
  exact ⟨_, hstep, State.maskableHandler_pushes hw (acceptanceTStates .mode0) _⟩

theorem State.MaskableDue.step_mode0_other {s : State} (h : s.MaskableDue) (hm : s.im = .mode0)
    (hdata : ∀ y : Nat, y < 8 → s.nextPins.intData ≠ BitVec.ofNat 8 (0xC7 + 8 * y)) :
    Machine.step s = .refused (.modeZeroInstruction s.nextPins.intData) := by
  obtain ⟨hstep, him⟩ := h.step_of_mode hm
  have hother : ¬ isRestartOpcode s.nextPins.intData = true := by
    rw [isRestartOpcode_iff]
    rintro ⟨y, hy, hop⟩
    exact hdata y hy hop
  rw [State.acceptInt_of_mode0 him, State.acceptMode0, if_neg hother] at hstep
  exact hstep

/-- Settles O52, by the mode, and in mode 0 by whether the supplied byte is an `RST`. -/
theorem maskableInterruptIsTaken : Obligations.MaskableInterruptIsTaken := fun _ hw hdue =>
  ⟨hdue.step_mode1 hw, hdue.step_mode2 hw, fun hm _ => hdue.step_mode0_restart hw hm, hdue.step_mode0_other⟩

end Sys2Proof.Machine
end
